-- ==== Sys2Proof/Word.lean ====
section
/-! DEFINITION. The word of the serial ports (R175: a frame is a sequence of 16-bit words). -/

namespace Sys2Proof

/-- One 16-bit word of a port's frame or result record (R175). -/
abbrev Word := BitVec 16

end Sys2Proof
end

