-- ==== Sys2Proof/Syntax.lean ====
section
/-! DEFINITION. The commands of the part: one constructor for each row of spec/opcode_table.json. -/

namespace Sys2Proof

/-- The three serial ports (00_scope.md). -/
inductive Port where
  | console | job | loop
  deriving DecidableEq, Repr

/-- A REQUEST frame as a port takes it (R175, R177 and the request frame header). The request code is the command's
constructor. -/
structure Frame where
  port : Port
  /-- The sequence tag, bits 11 to 8 of the header word. -/
  tag : BitVec 4
  /-- The operand word count L, the second word; absent when the frame ends before or within it (R177). -/
  declared : Option Word
  /-- The whole words that follow the count, in the order they were clocked. -/
  words : List Word
  /-- True when the clock count was not a whole number of words (R175). -/
  partialWord : Bool
  deriving DecidableEq, Repr

/-- The two press levels with a filter in the Press Signal Unit (R169). -/
inductive PressLevel where
  | impression | freeze
  deriving DecidableEq, Repr

/-- The commands: requests (each with its REQUEST frame) and the events of ports, key lines, pins and timers. -/
inductive Instr where
  | identify (f : Frame)
  | readStatus (f : Frame)
  | readZones (f : Frame)
  | readJob (f : Frame)
  | readCurve (f : Frame)
  | setMask (f : Frame)
  | ackNotices (f : Frame)
  | portReset (f : Frame)
  | configure (f : Frame)
  | deviceReset (f : Frame)
  | takeJob (f : Frame)
  | endJob (f : Frame)
  | setSweep (f : Frame)
  | discardStage (f : Frame)
  | defineCurve (f : Frame)
  | deleteCurve (f : Frame)
  | setConsoleTrim (f : Frame)
  | adjustConsoleTrim (f : Frame)
  | clearTrims (f : Frame)
  | setLoopHold (f : Frame)
  | disableZone (f : Frame)
  | enableZone (f : Frame)
  | releaseZone (f : Frame)
  | setKeyCal (f : Frame)
  | readEcho (f : Frame)
  | holdKeys (f : Frame)
  | resumeKeys (f : Frame)
  | setLimits (f : Frame)
  | supplyRetry (f : Frame)
  | setLoopParameters (f : Frame)
  | setTestPosting (f : Frame)
  | testNotice (f : Frame)
  | beginStage (f : Frame)
  | stageUnit (f : Frame)
  | stageData (f : Frame)
  | endStage (f : Frame)
  | applyDeviations (f : Frame)
  /-- A REQUEST frame with a code that is not in the table of R177. -/
  | unknownRequest (code : BitVec 8) (f : Frame)
  /-- A FETCH frame of `words` whole words, the header word included. -/
  | fetch (p : Port) (words : Nat)
  /-- A frame of `words` whole words whose frame type is neither 5 nor 9. -/
  | unknownFrameType (p : Port) (type : BitVec 4) (words : Nat)
  /-- A REQUEST frame other than PORT RESET, of `words` whole words, taken while the port is BUSY. -/
  | requestDiscardedBusy (p : Port) (words : Nat)
  | executionEnd (p : Port)
  /-- The controller of key line `u` takes its turn. -/
  | lineTurn (u : Nat)
  | grant
  | pollDue (u z : Nat)
  /-- The status symbol on key line `u` is complete; its bits as sampled (R135). -/
  | statusSymbol (u : Nat) (code : BitVec 2) (parity stop : Bool)
  | noReply (u : Nat)
  | echoEnd (u : Nat)
  | lineErrorLimit (u : Nat)
  | restEnd (u : Nat)
  /-- SHEET changes to `level`; a change to high is a rising edge (R167). -/
  | sheetEdge (level : Bool)
  | pressLevelRawChange (which : PressLevel) (level : Bool)
  | pressLevelFilterExpiry (which : PressLevel)
  | supplyOkRawChange (level : Bool)
  | supplyOkFilterExpiry
  | warmUpLimitExpiry
  | standbyTimerExpiry
  | resetLineFall
  | resetLineRise
  | powerOn
  | startUpIntervalEnd
  | answerDelayEnd
  | requestFrameEnd (u : Nat)
  | statusSymbolStart (u : Nat)
  | echoRisingEdge (u : Nat)
  deriving DecidableEq, Repr

end Sys2Proof
end

