-- ==== Sys2Proof/Decode.lean ====
section
/-! DEFINITION. Commands spelled by words: by the table's bits (no row of spec/opcode_table.json gives any), and by the
header word of a frame clocked at a port (R175, R177). -/

namespace Sys2Proof

/-- The command a word spells by the bits of spec/opcode_table.json. Every row's "fields" is empty and none has fixed
bits, so no word spells a command. -/
def decodeTableWord (_nbits _w : Nat) : Option Instr := none

/-! ### Frames (R175 and the request frame header) -/

/-- The 16-bit words of the bits clocked in a frame, most significant bit first, and whether a partial word trails them;
`n` bits of the word under way stand in `acc`. -/
def gatherWords (n : Nat) (acc : Word) : List Bool → List Word × Bool
  | [] => ([], n != 0)
  | b :: rest =>
    if n = 15 then
      let r := gatherWords 0 0 rest
      (acc.shiftConcat b :: r.1, r.2)
    else gatherWords (n + 1) (acc.shiftConcat b) rest

/-- The requests of the table of R177 by their codes. -/
def requestCommands : List (Nat × (Frame → Instr)) :=
  [(1, .identify), (2, .readStatus), (3, .readZones), (4, .readJob), (5, .readCurve), (6, .setMask), (7, .ackNotices),
    (8, .portReset), (16, .configure), (17, .deviceReset), (18, .takeJob), (19, .endJob), (20, .setSweep),
    (21, .discardStage), (24, .defineCurve), (25, .deleteCurve), (32, .setConsoleTrim), (33, .adjustConsoleTrim),
    (34, .clearTrims)]
  ++ [(35, .setLoopHold), (36, .disableZone), (37, .enableZone), (38, .releaseZone), (39, .setKeyCal), (40, .readEcho),
    (41, .holdKeys), (42, .resumeKeys), (43, .setLimits), (44, .supplyRetry), (45, .setLoopParameters),
    (46, .setTestPosting), (47, .testNotice), (48, .beginStage), (49, .stageUnit), (50, .stageData), (51, .endStage),
    (56, .applyDeviations)]

/-- The command of a REQUEST frame with this request code (R177 step 1). -/
def requestCommand (code : BitVec 8) (f : Frame) : Instr :=
  match requestCommands.find? (fun q => q.1 == code.toNat) with
  | some q => q.2 f
  | none => .unknownRequest code f

/-- The command of the words clocked in a frame at port p: the header word's frame type, bits 15 to 12, tells a REQUEST (5)
and a FETCH (9) from a frame that is not taken; bits 11 to 8 are the sequence tag and bits 7 to 0 the request code. A
frame without a header word is ignored, and a FETCH's trailing partial word too (R175). -/
def wordsCommand (p : Port) (partialWord : Bool) : List Word → Option Instr
  | [] => none
  | header :: rest =>
    let type := header.extractLsb' 12 4
    if type = 5 then
      some (requestCommand (header.extractLsb' 0 8)
        { port := p, tag := header.extractLsb' 8 4, declared := rest.head?, words := rest.tail, partialWord := partialWord })
    else if type = 9 then some (.fetch p (rest.length + 1))
    else some (.unknownFrameType p type (rest.length + 1))

/-- The command of the bits a master clocks at port p while select is low (R175). -/
def frameCommand (p : Port) (bits : List Bool) : Option Instr :=
  let r := gatherWords 0 0 bits
  wordsCommand p r.2 r.1

end Sys2Proof
end

