-- ==== Sys2Proof/Config.lean ====
section
/-! DEFINITION. What the part fixes (00_scope.md, R16, R88, R159, R167, R169, R172, R173) and its one free value. -/

namespace Sys2Proof.Config

/-- The figures IDENTIFY reports (R16). -/
def partCode : Nat := 2102
def revision : Nat := 1
def maxUnits : Nat := 8
def maxZones : Nat := 36
def minZones : Nat := 12
def curveSlots : Nat := 16
def budgetMax : Nat := 24

/-- The largest operand word count of a REQUEST frame (R177). -/
def maxOperands : Nat := 128

/-- The warm-up limit, in milliseconds (R159). -/
def warmUpMs : Nat := 2000
/-- The least spacing of counted SHEET edges, in microseconds (R167). -/
def sheetSpacingUs : Nat := 5000
/-- The time a raw level must hold to be taken, in microseconds (R158, R169). -/
def filterUs : Nat := 1000
/-- The start-up interval, in microseconds (R173). -/
def startUpUs : Nat := 50000
/-- The answer delay, in microseconds (R172). -/
def answerDelayUs : Nat := 1000

/-- One bit on a key line, in ticks of the Echo Timer (R133). -/
def bitTicks : Nat := 4
/-- From the rise of a start bit to its mid-bit sample (R135). -/
def sampleTicks : Nat := 2
/-- From the mid-bit sample of the start bit to the end of the 20-tick symbol (R135). -/
def symbolRestTicks : Nat := 18
/-- The window for the start of the status symbol (R136). -/
def replyTicks : Nat := 2000
/-- The limit of a transaction after its request end (R138). -/
def limitTicks : Nat := 12000
/-- The rest after a transaction (R139). -/
def restTicks : Nat := 100

/-- FREE VALUE (log 11, DESIGN CHOICE). R177 puts the number of operand words a request requires into one 16-bit data
word of FRAME_ERROR; for a number above 65 535 (DEFINE CURVE's 3 + 2n) it states no word. The word for that number. -/
opaque requiredOverflow : Nat → Word

end Sys2Proof.Config
end

