-- ==== Sys2Proof/Machine/State.lean ====
section
/-! DEFINITION. The state of the part: every piece of state the spec gives it, block by block, as plain data. -/

namespace Sys2Proof.Machine

/-! ### Time (R7, R140, R166) -/

/-- A reading of the part time to the microsecond (R7, R166). -/
structure Instant where
  ms : BitVec 32
  us : Fin 1000
  deriving DecidableEq, Repr

/-- The clocks: part time (R7), the Echo Timer's counter (R140), and the time since the present reset phase began, in
microseconds, which times the start-up interval and the answer delay (R172, R173). -/
structure Clock where
  now : Instant
  echo : BitVec 16
  phaseUs : Nat
  deriving DecidableEq, Repr

/-! ### The two tables every reset but power-on keeps (R14, R15, R18, R31) -/

/-- A calibration entry: zero width Z and gain G (R14). -/
structure CalEntry where
  zero : Nat
  gain : Nat
  deriving DecidableEq, Repr

structure Breakpoint where
  x : Nat
  y : Nat
  deriving DecidableEq, Repr

/-- The content of a defined curve slot (R18). -/
structure Curve where
  fref : Nat
  points : List Breakpoint
  deriving DecidableEq, Repr

/-- An entry of one of the two tables, with the content a request gives it (R24, R25, R85). -/
inductive TableWrite where
  | curve (k : Nat) (c : Option Curve)
  | cal (u z : Nat) (e : CalEntry)
  deriving DecidableEq, Repr

/-- The Key Calibration Table and the Curve Table as the executions that have ended leave them, which is what a reset keeps
(R15, R31, R172, R174; log 7), and what the requests still being executed have written since, each with its port, in the
order of their execution (R178). -/
structure Kept where
  cal : Vector (Vector CalEntry 36) 8
  curves : Vector (Option Curve) 16
  underWay : List (Port × TableWrite)
  deriving DecidableEq, Repr

/-! ### Port Controllers (R176, R178, R184 to R187) -/

/-- The outcomes of a result record (R178). -/
inductive ResultCode where
  | ok | wrongPort | notConfigured | wrongState | badParam | unknownRequest | frameError | stageOpen | noStage
  | notReady | curveMissing | curveInUse | zoneBusy | noJob | noPrint | badSheet | testOff | testActive
  deriving DecidableEq, Repr

/-- A result record: request code, sequence tag, outcome and data words (R178). -/
structure ResultRecord where
  code : BitVec 8
  tag : BitVec 4
  outcome : ResultCode
  data : List Word
  deriving DecidableEq, Repr

/-- The command state of a port (R176). BUSY keeps the record its execution will leave and whether a PORT RESET is pending
(R180); DONE holds the result record. -/
inductive CmdState where
  | idle
  | busy (r : ResultRecord) (resetPending : Bool)
  | done (r : ResultRecord)
  deriving DecidableEq, Repr

/-- The notice kinds (R184). -/
inductive Notice where
  | stageDone | stageFailed | jobTaken | presetDone | keyAlert | surveyDone | supplyAlert | freezeChange
  deriving DecidableEq, Repr

/-- One Port Controller (00_scope.md, R176, R179, R184, R185, R187). A set of notice kinds is a word of eight bits, one
for each kind, as every word of the ports carries it. `out` holds the words the port shifted out in its last frame, as
far as the spec gives them (R172, R175, R179; log 13). -/
structure PortCtl where
  cmd : CmdState
  dropped : Bool
  notices : BitVec 8
  mask : BitVec 8
  test : Bool
  out : List Word
  deriving DecidableEq, Repr

structure Ports where
  console : PortCtl
  job : PortCtl
  loop : PortCtl
  deriving DecidableEq, Repr

/-! ### Zone Table (R1, R6, R13, R14) -/

/-- The device states (R1). -/
inductive DeviceState where
  | unconfigured | configured | jobActive
  deriving DecidableEq, Repr

/-- The key states (R11). -/
inductive KeyState where
  | unknown | idle | settled | queued | moving | missed | blocked | faulted | disabled
  deriving DecidableEq, Repr

/-- The fault causes (R13). -/
inductive FaultCause where
  | stall | timeout | line
  deriving DecidableEq, Repr

/-- The set of halt reasons of a zone (R13): which of the four reasons it holds. -/
structure Halts where
  freeze : Bool
  timeout : Bool
  disable : Bool
  survey : Bool
  deriving DecidableEq, Repr

/-- A poll-due time (R131, R148): the end of the transaction that set it, and the poll interval that was used. The due
time is their sum; the poll is due once the time elapsed since the end has reached the interval. -/
structure PollDue where
  ended : BitVec 32
  interval : Nat
  deriving DecidableEq, Repr

/-- A zone record (R6), with the poll-due time its Key Line Controller holds for it (R131). -/
structure ZoneRec where
  unit : Nat
  zone : Nat
  coverage : Option Nat
  effective : Option Nat
  base : Option Nat
  target : Option Nat
  consoleTrim : Int
  loopTrim : Int
  limit : Bool
  loopHold : Bool
  state : KeyState
  measured : Option Nat
  echoWidth : Option Nat
  echoTime : Option (BitVec 32)
  failures : Nat
  retries : Nat
  retryDue : Bool
  stale : Bool
  halts : Halts
  moveStart : Option (BitVec 32)
  settleStamp : Option (BitVec 32)
  faultCause : Option FaultCause
  pollDue : Option PollDue
  deriving DecidableEq, Repr

/-! ### Job Store (R33, R44) -/

/-- A unit record of a job (R33). -/
structure UnitParams where
  unit : Nat
  curve : Nat
  sweep : Nat
  s1 : Nat
  s2 : Nat
  first : Nat
  last : Nat
  deriving DecidableEq, Repr

/-- What the staged slot holds in OPEN, COMPLETE and FAILED (R33). The received count is the length of the stream. -/
structure Stage where
  jobNo : Nat
  units : List Nat
  expected : Nat
  stream : List Nat
  clamped : Nat
  records : List UnitParams
  deriving DecidableEq, Repr

/-- The failure causes of the staged slot (R33). -/
inductive StageCause where
  | oversize | short | incomplete
  deriving DecidableEq, Repr

/-- The staged slot (R33). -/
inductive Slot where
  | empty
  | opened (c : Stage)
  | complete (c : Stage)
  | failed (c : Stage) (cause : StageCause)
  deriving DecidableEq, Repr

/-- The active job (R44). Its coverage stands in the zone records (R8). -/
structure ActiveJob where
  jobNo : Nat
  units : List Nat
  records : List UnitParams
  deriving DecidableEq, Repr

/-! ### Limits and loop parameters (R88, R90) -/

structure Limits where
  budget : Nat
  tolerance : Nat
  pollMs : Nat
  moveLimitS : Nat
  standbyS : Nat
  deriving DecidableEq, Repr

structure LoopParams where
  deadBand : Nat
  gain : Nat
  stepLimit : Nat
  settleSheets : Nat
  deriving DecidableEq, Repr

/-! ### Key Line Controllers and Echo Timer captures (R131, R141) -/

inductive LinePhase where
  | free | sending | awaitStatus | receivingStatus | awaitEcho | echo | resting
  deriving DecidableEq, Repr

inductive Verb where
  | move | sense | halt
  deriving DecidableEq, Repr

/-- A received status symbol: its code and verdict (R135). -/
structure Symbol where
  code : BitVec 2
  good : Bool
  deriving DecidableEq, Repr

/-- The transaction record (R131). Beside its fields it keeps the counts the controller times with: the start of the
request frame, the sample of the symbol's start and the end of the transaction (R133, R135, R139), and the poll-due time
a poll SENSE held when it started (R148). -/
structure Txn where
  zone : Nat
  verb : Verb
  /-- Target ticks, in a MOVE (R66). -/
  ticks : Option (BitVec 13)
  started : BitVec 16
  /-- Request end count (R134). -/
  reqEnd : Option (BitVec 16)
  symbolAt : Option (BitVec 16)
  symbol : Option Symbol
  savedPoll : Option PollDue
  endedAt : Option (BitVec 16)
  deriving DecidableEq, Repr

/-- A capture pair of the Echo Timer (R141). -/
structure Capture where
  rise : Option (BitVec 16)
  fall : Option (BitVec 16)
  armed : Bool
  deriving DecidableEq, Repr

/-- A Key Line Controller with the capture pair of its line (R131, R141). -/
structure Line where
  phase : LinePhase
  txn : Option Txn
  haltMark : Option Nat
  capture : Capture
  deriving DecidableEq, Repr

/-! ### Filtered levels, Supply Control, Press Signal Unit (R157, R166, R169) -/

/-- A pending change: the new raw level and the time the line took it (R169). -/
structure Pending where
  level : Bool
  since : Instant
  deriving DecidableEq, Repr

/-- An input level with its filter: the pin's raw level, the filtered level and the pending change (R158, R169). -/
structure Level where
  raw : Bool
  filtered : Bool
  pending : Option Pending
  deriving DecidableEq, Repr

inductive SupplyState where
  | off | warming | on | failed
  deriving DecidableEq, Repr

/-- The standby timer: when it started and the standby time it was started with, in milliseconds (R160). -/
structure Standby where
  start : BitVec 32
  ms : Nat
  deriving DecidableEq, Repr

/-- Supply Control (R157): the state, the warm-up limit timer (its start while it runs), the standby timer, and the
SUPPLY-OK level. -/
structure Supply where
  state : SupplyState
  warmUp : Option (BitVec 32)
  standby : Option Standby
  ok : Level
  deriving DecidableEq, Repr

/-- The reset phases (R166). -/
inductive Phase where
  | startUp | held | answerDelay | running
  deriving DecidableEq, Repr

/-- The Press Signal Unit (R166) and the SHEET and RESET pins. -/
structure Press where
  sheetPin : Bool
  resetPin : Bool
  sheets : BitVec 32
  lastEdge : Option Instant
  impression : Level
  freeze : Level
  phase : Phase
  deriving DecidableEq, Repr

/-! ### The whole part -/

structure State where
  pending : List Instr
  clock : Clock
  ports : Ports
  device : DeviceState
  nz : List Nat
  zones : List ZoneRec
  cal : Vector (Vector CalEntry 36) 8
  curves : Vector (Option Curve) 16
  kept : Kept
  slot : Slot
  job : Option ActiveJob
  limits : Limits
  loop : LoopParams
  queues : Vector (List Nat) 8
  pointer : Nat
  hold : Bool
  preset : Bool
  lines : Vector Line 8
  supply : Supply
  press : Press
  deriving DecidableEq, Repr

/-- The block's faults. No command of the spec stops the part: what its chapters call a failure or a refusal is a next
state (a failed transaction, a BLOCKED or FAULTED zone, a FAILED supply, an error outcome in a result record). Nobody
raises a fault; safe. -/
inductive Fault where
  deriving DecidableEq, Repr

/-- The reasons a command is given no meaning. -/
inductive Refusal where
  /-- Raised by an arm of exec whose command has no meaning yet; no arm raises it. Safe. -/
  | notModelled (mnemonic : String)
  deriving DecidableEq, Repr

/-! ### Reset values -/

def Instant.zero : Instant := ⟨0, 0⟩

def Halts.none : Halts := ⟨false, false, false, false⟩

/-- A Port Controller after every reset other than PORT RESET (R181). -/
def PortCtl.afterReset : PortCtl :=
  { cmd := .idle, dropped := false, notices := 0, mask := 0, test := false, out := [] }

/-- The reset values of SET LIMITS (R88). -/
def Limits.afterReset : Limits :=
  { budget := 12, tolerance := 4, pollMs := 100, moveLimitS := 8, standbyS := 60 }

/-- The reset values of the loop parameters (R90). -/
def LoopParams.afterReset : LoopParams := { deadBand := 20, gain := 10, stepLimit := 15, settleSheets := 40 }

/-- The calibration entry every position holds after power-on (R15). -/
def CalEntry.powerOn : CalEntry := { zero := 500, gain := 410 }

/-- An empty, disarmed capture pair (R141). -/
def Capture.empty : Capture := { rise := none, fall := none, armed := false }

/-- A Key Line Controller after every reset other than PORT RESET (R131). -/
def Line.afterReset : Line := { phase := .free, txn := none, haltMark := none, capture := .empty }

/-- A low pin that the filter has not seen change (log 2, log 3: DESIGN CHOICE, the spec gives no level). -/
def Level.low : Level := { raw := false, filtered := false, pending := none }

/-- The part at power-on (R173; log 1): START-UP, UNCONFIGURED, both tables at their power-on values, every other field
at its reset value. The pins are DESIGN CHOICE: RESET high, the others low (log 2). -/
def State.reset : State where
  pending := []
  clock := { now := .zero, echo := 0, phaseUs := 0 }
  ports := { console := .afterReset, job := .afterReset, loop := .afterReset }
  device := .unconfigured
  nz := []
  zones := []
  cal := Vector.replicate 8 (Vector.replicate 36 .powerOn)
  curves := Vector.replicate 16 none
  kept := {
    cal := Vector.replicate 8 (Vector.replicate 36 .powerOn), curves := Vector.replicate 16 none, underWay := [] }
  slot := .empty
  job := none
  limits := .afterReset
  loop := .afterReset
  queues := Vector.replicate 8 []
  pointer := 8
  hold := false
  preset := false
  lines := Vector.replicate 8 .afterReset
  supply := { state := .off, warmUp := none, standby := none, ok := .low }
  press :=
    { sheetPin := false, resetPin := true, sheets := 0, lastEdge := none, impression := .low, freeze := .low,
      phase := .startUp }

end Sys2Proof.Machine
end

