-- ==== Sys2Proof/Machine/Operands.lean ====
section
/-! DEFINITION. Roundings (R57), operand words (R75), the request table and the frame length check (R177). -/

namespace Sys2Proof.Machine

/-! ### Roundings and clamps -/

/-- Round half up of num / den (R57). -/
def roundHalfUp (num den : Nat) : Nat := (2 * num + den) / (2 * den)

/-- Round half away of num / den (R57): the magnitude is rounded half up and the sign is kept. -/
def roundHalfAway (num : Int) (den : Nat) : Int :=
  if num < 0 then -(roundHalfUp num.natAbs den : Int) else (roundHalfUp num.natAbs den : Int)

/-- A value clamped to lo to hi. -/
def clampInt (lo hi x : Int) : Int := if x < lo then lo else if hi < x then hi else x

/-! ### Words -/

/-- A data word that carries an unsigned value. -/
def uword (n : Nat) : Word := BitVec.ofNat 16 n

/-- A data word that carries a signed value, in two's complement (R178). -/
def sword (n : Int) : Word := BitVec.ofInt 16 n

/-- A data word that carries a flag. -/
def bword (b : Bool) : Word := if b then 1 else 0

/-- The upper word of a 32-bit count. -/
def upper (x : BitVec 32) : Word := x.extractLsb' 16 16

/-- The lower word of a 32-bit count. -/
def lower (x : BitVec 32) : Word := x.extractLsb' 0 16

/-- Operand `i` of a frame, counted from 0, read as an unsigned number (R75). -/
def operand (ws : List Word) (i : Nat) : Nat := (ws.getD i 0).toNat

/-- Operand `i` of a frame read as a signed number in two's complement (R75). -/
def signedOperand (ws : List Word) (i : Nat) : Int := (ws.getD i 0).toInt

/-! ### The request table (R177) -/

/-- The requests of the table of R177. -/
inductive Req where
  | identify | readStatus | readZones | readJob | readCurve | setMask | ackNotices | portReset | configure | deviceReset
  | takeJob | endJob | setSweep | discardStage | defineCurve | deleteCurve | setConsoleTrim | adjustConsoleTrim
  | clearTrims | setLoopHold | disableZone | enableZone | releaseZone | setKeyCal | readEcho | holdKeys | resumeKeys
  | setLimits | supplyRetry | setLoopParameters | setTestPosting | testNotice | beginStage | stageUnit | stageData
  | endStage | applyDeviations
  deriving DecidableEq, Repr

/-- The request code (R177). -/
def reqCode : Req → BitVec 8
  | .identify => 1 | .readStatus => 2 | .readZones => 3 | .readJob => 4 | .readCurve => 5 | .setMask => 6
  | .ackNotices => 7 | .portReset => 8 | .configure => 16 | .deviceReset => 17 | .takeJob => 18 | .endJob => 19
  | .setSweep => 20 | .discardStage => 21 | .defineCurve => 24 | .deleteCurve => 25 | .setConsoleTrim => 32
  | .adjustConsoleTrim => 33 | .clearTrims => 34 | .setLoopHold => 35 | .disableZone => 36 | .enableZone => 37
  | .releaseZone => 38 | .setKeyCal => 39 | .readEcho => 40 | .holdKeys => 41 | .resumeKeys => 42 | .setLimits => 43
  | .supplyRetry => 44 | .setLoopParameters => 45 | .setTestPosting => 46 | .testNotice => 47 | .beginStage => 48
  | .stageUnit => 49 | .stageData => 50 | .endStage => 51 | .applyDeviations => 56

/-- The ports on which a request is allowed (R177). -/
def reqAllowed (q : Req) (p : Port) : Bool :=
  match q with
  | .identify | .readStatus | .readZones | .readJob | .readCurve | .setMask | .ackNotices | .portReset => true
  | .discardStage | .defineCurve | .deleteCurve => p == .console || p == .job
  | .beginStage | .stageUnit | .stageData | .endStage => p == .job
  | .applyDeviations => p == .loop
  | .configure | .deviceReset | .takeJob | .endJob | .setSweep | .setConsoleTrim | .adjustConsoleTrim | .clearTrims
  | .setLoopHold | .disableZone | .enableZone | .releaseZone | .setKeyCal | .readEcho | .holdKeys | .resumeKeys
  | .setLimits | .supplyRetry | .setLoopParameters | .setTestPosting | .testNotice => p == .console

/-- The requests that need a configured device (R2, R177). -/
def reqNeedsConfigured : Req → Bool
  | .identify | .readStatus | .readCurve | .setMask | .ackNotices | .portReset | .configure | .deviceReset
  | .defineCurve | .deleteCurve | .setKeyCal | .setLimits | .setLoopParameters | .setTestPosting | .testNotice => false
  | .readZones | .readJob | .takeJob | .endJob | .setSweep | .discardStage | .setConsoleTrim | .adjustConsoleTrim
  | .clearTrims | .setLoopHold | .disableZone | .enableZone | .releaseZone | .readEcho | .holdKeys | .resumeKeys
  | .supplyRetry | .beginStage | .stageUnit | .stageData | .endStage | .applyDeviations => true

/-- A count that depends on the count operand at place `at` (from 0): base + per × count. Absent when the frame ends
before that operand. -/
def countedOperands (place base per : Nat) (ws : List Word) : Option Nat :=
  ws[place]?.map (fun w => base + per * w.toNat)

/-- The operand words a request requires, from its frame's operand words (R177); absent when it cannot be found. -/
def reqOperands (q : Req) (ws : List Word) : Option Nat :=
  match q with
  | .identify | .readStatus | .readJob | .deviceReset | .takeJob | .endJob | .discardStage | .holdKeys | .resumeKeys
  | .supplyRetry | .endStage => some 0
  | .portReset => some ws.length
  | .readCurve | .setMask | .ackNotices | .deleteCurve => some 1
  | .setSweep | .clearTrims | .disableZone | .enableZone | .releaseZone | .readEcho | .setTestPosting | .testNotice => some 2
  | .readZones => some 3
  | .setKeyCal | .setLoopParameters => some 4
  | .setLimits => some 5
  | .stageUnit => some 7
  | .configure | .stageData => countedOperands 0 1 1 ws
  | .beginStage => countedOperands 1 2 1 ws
  | .defineCurve => countedOperands 2 3 2 ws
  | .setConsoleTrim | .adjustConsoleTrim | .setLoopHold => countedOperands 2 3 1 ws
  | .applyDeviations => countedOperands 4 5 1 ws

/-! ### Frames -/

/-- The operand words a port keeps of a frame: the excess over 128 is discarded (R177). -/
def frameWords (f : Frame) : List Word := f.words.take Config.maxOperands

/-- The operand words received: a trailing partial word counts as one, words in excess of 128 are discarded, and a frame
that ends before its count has none (R175, R177; log 12). -/
def frameReceived (f : Frame) : Nat :=
  if f.declared.isSome then min Config.maxOperands (f.words.length + if f.partialWord then 1 else 0) else 0

/-- The frame length matches the request (R177 step 2). -/
def frameMatches (q : Req) (f : Frame) : Bool :=
  match f.declared with
  | none => false
  | some l =>
    !f.partialWord && f.words.length == l.toNat && l.toNat ≤ Config.maxOperands
      && reqOperands q f.words == some l.toNat

/-- The data word of FRAME_ERROR that gives the number of operand words required: 0 when it could not be found, and the
free value of Config where the number does not fit a word (R177; log 11). -/
def requiredWord (n : Option Nat) : Word :=
  match n with
  | none => 0
  | some k => if k < 65536 then uword k else Config.requiredOverflow k

/-- The whole words a master clocks in a REQUEST frame, header included. -/
def frameClocked (f : Frame) : Nat := if f.declared.isSome then 2 + f.words.length else 1

/-- The outcome and data words of a request (R178). -/
structure Answer where
  outcome : ResultCode
  data : List Word
  deriving DecidableEq, Repr

/-- The refusal of steps 2 to 4 of R177, or none when the request's own checks follow. -/
def frameRefusal (q : Req) (f : Frame) (device : DeviceState) : Option Answer :=
  if !frameMatches q f then
    some ⟨.frameError, [uword (frameReceived f), requiredWord (reqOperands q (frameWords f))]⟩
  else if !reqAllowed q f.port then some ⟨.wrongPort, []⟩
  else if reqNeedsConfigured q && device == .unconfigured then some ⟨.notConfigured, []⟩
  else none

/-! ### Codes in data words -/

/-- The outcome codes (R178). -/
def resultCode : ResultCode → Nat
  | .ok => 0 | .wrongPort => 1 | .notConfigured => 2 | .wrongState => 3 | .badParam => 4 | .unknownRequest => 5
  | .frameError => 6 | .stageOpen => 7 | .noStage => 8 | .notReady => 10 | .curveMissing => 11 | .curveInUse => 12
  | .zoneBusy => 13 | .noJob => 14 | .noPrint => 15 | .badSheet => 16 | .testOff => 17 | .testActive => 18

/-- The key state codes (R75). -/
def keyStateCode : KeyState → Nat
  | .unknown => 0 | .idle => 1 | .settled => 2 | .queued => 3 | .moving => 4 | .missed => 5 | .blocked => 6
  | .faulted => 7 | .disabled => 8

/-- The device state codes (R52, R182). -/
def deviceCode : DeviceState → Nat
  | .unconfigured => 0 | .configured => 1 | .jobActive => 2

/-- The supply state codes (09_key_supply.md, table of supply states). -/
def supplyCode : SupplyState → Nat
  | .off => 0 | .warming => 1 | .on => 2 | .failed => 3

/-- The slot state codes (R45, R52). -/
def slotCode : Slot → Nat
  | .empty => 0 | .opened _ => 1 | .complete _ => 2 | .failed _ _ => 3

/-- The failure cause codes of the staged slot (R41, R52). -/
def stageCauseCode : StageCause → Nat
  | .oversize => 1 | .short => 2 | .incomplete => 3

/-- The fault cause codes of the zone readout record, 0 when absent. -/
def faultCauseCode : Option FaultCause → Nat
  | none => 0 | some .stall => 1 | some .timeout => 2 | some .line => 3

/-- The port codes of SET TEST POSTING and TEST NOTICE (R187). -/
def portOfCode : Nat → Option Port
  | 1 => some .console | 2 => some .job | 3 => some .loop | _ => none

end Sys2Proof.Machine
end

