-- ==== Sys2Proof/Machine/Flags.lean ====
section
/-! DEFINITION. The flags of the ports: notice sets, masks, attention lines, dropped flags; and the level filters. -/

namespace Sys2Proof.Machine

/-! ### Ports -/

def Ports.get (ps : Ports) : Port → PortCtl
  | .console => ps.console
  | .job => ps.job
  | .loop => ps.loop

def Ports.set (ps : Ports) (p : Port) (c : PortCtl) : Ports :=
  match p with
  | .console => { ps with console := c }
  | .job => { ps with job := c }
  | .loop => { ps with loop := c }

def State.port (s : State) (p : Port) : PortCtl := s.ports.get p

/-- One Port Controller changed by `f`, the others as they stand. -/
def State.modPort (s : State) (p : Port) (f : PortCtl → PortCtl) : State :=
  { s with ports := s.ports.set p (f (s.ports.get p)) }

/-- The attention line: asserted exactly while the notice set and the mask have a kind in common (R185). -/
def PortCtl.attention (c : PortCtl) : Bool := c.notices &&& c.mask != 0

/-- A port is BUSY (R176). -/
def PortCtl.isBusy (c : PortCtl) : Bool :=
  match c.cmd with
  | .busy _ _ => true
  | _ => false

/-- The effects of a PORT RESET on its port: the mask is kept (R180, R181). -/
def PortCtl.reset (c : PortCtl) : PortCtl :=
  { c with cmd := .idle, dropped := false, notices := 0, test := false }

/-! ### Notices (R184) -/

/-- The bit of a kind (R184). -/
def noticeBit : Notice → Nat
  | .stageDone => 0 | .stageFailed => 1 | .jobTaken => 2 | .presetDone => 3 | .keyAlert => 4 | .surveyDone => 5
  | .supplyAlert => 6 | .freezeChange => 7

/-- The notice word that names one kind. -/
def noticeWord (k : Notice) : BitVec 8 := 1#8 <<< noticeBit k

/-- The ports a kind is posted to (R184). -/
def noticePorts : Notice → List Port
  | .stageDone => [.job, .console]
  | .stageFailed => [.job]
  | .jobTaken => [.console, .job, .loop]
  | .presetDone => [.console, .loop]
  | .keyAlert => [.console, .loop]
  | .surveyDone => [.console]
  | .supplyAlert => [.console]
  | .freezeChange => [.console, .loop]

/-- The kinds of `w` join the notice set of a port (R184, R187). -/
def State.postTo (s : State) (w : BitVec 8) (p : Port) : State :=
  s.modPort p (fun c => { c with notices := c.notices ||| w })

/-- A kind is posted to its ports (R184). -/
def State.post (k : Notice) (s : State) : State :=
  (noticePorts k).foldl (fun t p => t.postTo (noticeWord k) p) s

/-! ### Level filters (R158, R169) -/

/-- Microseconds of the part time, which wraps at 2^32 ms (R7). -/
def instantUs (t : Instant) : Nat := t.ms.toNat * 1000 + t.us.val

/-- The time elapsed since a stored reading, in microseconds, modulo 2^32 ms (R7). -/
def elapsedUs (now since : Instant) : Nat :=
  (instantUs now + 4294967296000 - instantUs since) % 4294967296000

/-- The time elapsed since a stored reading of the part time, in milliseconds, modulo 2^32 (R7). -/
def elapsedMs (now since : BitVec 32) : Nat := (now - since).toNat

/-- A raw change while the filter runs: a pending change begins when the new level differs from the filtered one, and is
dropped when it equals it (R169). -/
def Level.rawChange (l : Level) (level : Bool) (now : Instant) : Level :=
  if l.raw = level then l
  else { l with raw := level, pending := if level = l.filtered then none else some ⟨level, now⟩ }

/-- A raw change while the filter does not run moves the pin alone (R169). -/
def Level.pinChange (l : Level) (level : Bool) : Level := { l with raw := level }

/-- The pending change has stood for 1 ms (R169). -/
def Level.due (l : Level) (now : Instant) : Bool :=
  match l.pending with
  | some p => Config.filterUs ≤ elapsedUs now p.since
  | none => false

/-- The pending change is taken (R169). -/
def Level.take (l : Level) : Level :=
  match l.pending with
  | some p => { l with filtered := p.level, pending := none }
  | none => l

/-- The first level at the end of a reset (R169). -/
def Level.sample (l : Level) : Level := { l with filtered := l.raw, pending := none }

/-- The filter begins to run when the reset phase enters RUNNING (R169). -/
def Level.resume (l : Level) (now : Instant) : Level :=
  { l with pending := if l.raw = l.filtered then l.pending else some ⟨l.raw, now⟩ }

/-- The level while the part is held in reset: the pin stays, the rest is at its reset value (log 3). -/
def Level.heldReset (l : Level) : Level := { Level.low with raw := l.raw }

end Sys2Proof.Machine
end

