-- ==== Sys2Proof/Machine/Ops.lean ====
section
/-! DEFINITION. The named operations over the part's tables: zone records, queues, calibration, curves, lines, supply;
entering a key state; taking a request; the clock; the resets. -/

namespace Sys2Proof.Machine

/-! ### Tables numbered from 1 -/

/-- Entry `i` of a table numbered from 1; `d` outside it. -/
def at1 {α : Type} {n : Nat} (v : Vector α n) (i : Nat) (d : α) : α := if i = 0 then d else v.getD (i - 1) d

/-- A table numbered from 1 with entry `i` replaced; unchanged for an `i` outside it. -/
def put1 {α : Type} {n : Nat} (v : Vector α n) (i : Nat) (x : α) : Vector α n :=
  if i = 0 then v else v.setIfInBounds (i - 1) x

/-! ### Configuration (R3, R5) -/

/-- N, the number of configured units (R3). -/
def State.unitCount (s : State) : Nat := s.nz.length

/-- Nz(u), 0 for a unit that is not configured (R3). -/
def State.zonesOf (s : State) (u : Nat) : Nat := if u = 0 then 0 else s.nz.getD (u - 1) 0

/-- Unit u is among units 1 to N (R5). -/
def State.unitConfigured (s : State) (u : Nat) : Bool := 1 ≤ u && u ≤ s.unitCount

/-- The pair (u, z) is valid (R5). -/
def State.validZone (s : State) (u z : Nat) : Bool := s.unitConfigured u && 1 ≤ z && z ≤ s.zonesOf u

/-- The range of n zones of unit u from f is valid (R5). -/
def State.validRange (s : State) (u f n : Nat) : Bool :=
  s.unitConfigured u && 1 ≤ f && 1 ≤ n && f + n ≤ s.zonesOf u + 1

/-! ### Zone records (R6) -/

def ZoneRec.isZone (r : ZoneRec) (u z : Nat) : Bool := r.unit == u && r.zone == z

/-- The record of zone (u, z). -/
def State.zone? (s : State) (u z : Nat) : Option ZoneRec := s.zones.find? (fun r => r.isZone u z)

/-- The record of zone (u, z) changed by `f`, every other record as it stands. -/
def State.modZone (s : State) (u z : Nat) (f : ZoneRec → ZoneRec) : State :=
  { s with zones := s.zones.map (fun r => if r.isZone u z then f r else r) }

/-- The records of unit u, in ascending zone order. -/
def State.unitZones (s : State) (u : Nat) : List ZoneRec := s.zones.filter (fun r => r.unit == u)

/-- A record as CONFIGURE creates it (R6). -/
def ZoneRec.created (u z : Nat) : ZoneRec where
  unit := u
  zone := z
  coverage := none
  effective := none
  base := none
  target := none
  consoleTrim := 0
  loopTrim := 0
  limit := false
  loopHold := false
  state := .unknown
  measured := none
  echoWidth := none
  echoTime := none
  failures := 0
  retries := 0
  retryDue := false
  stale := false
  halts := .none
  moveStart := none
  settleStamp := none
  faultCause := none
  pollDue := none

/-- A halt of the key is pending (R13). -/
def Halts.any (h : Halts) : Bool := h.freeze || h.timeout || h.disable || h.survey

/-- The moving count: the number of zones in MOVING (R116). -/
def State.movingCount (s : State) : Nat := s.zones.countP (fun r => r.state == .moving)

/-- No zone of the device is UNKNOWN (R110). -/
def State.noneUnknown (s : State) : Bool := s.zones.all (fun r => r.state != .unknown)

/-- The zone is within tolerance (R107); an absent position or target is not. -/
def State.within (s : State) (r : ZoneRec) : Bool :=
  match r.measured, r.target with
  | some p, some t => ((p : Int) - (t : Int)).natAbs ≤ s.limits.tolerance
  | _, _ => false

/-! ### Calibration and curves (R14, R18) -/

/-- The entry of position (u, z) in a Key Calibration Table (R14). -/
def calAt (v : Vector (Vector CalEntry 36) 8) (u z : Nat) : CalEntry :=
  at1 (at1 v u (Vector.replicate 36 .powerOn)) z .powerOn

/-- The calibration entry of position (u, z) (R14). -/
def State.calEntry (s : State) (u z : Nat) : CalEntry := calAt s.cal u z

/-- The Key Calibration Table with the entry of position (u, z) written. -/
def putCal (v : Vector (Vector CalEntry 36) 8) (u z : Nat) (e : CalEntry) : Vector (Vector CalEntry 36) 8 :=
  put1 v u (put1 (at1 v u (Vector.replicate 36 .powerOn)) z e)

/-- The calibration entry of position (u, z) written (R85). -/
def State.setCalEntry (s : State) (u z : Nat) (e : CalEntry) : State := { s with cal := putCal s.cal u z e }

/-- The content of curve slot k (R18). -/
def State.curve? (s : State) (k : Nat) : Option Curve := s.curves.getD k none

def State.setCurve (s : State) (k : Nat) (c : Option Curve) : State :=
  { s with curves := s.curves.setIfInBounds k c }

/-- The unit records the staged slot holds, whatever its state (R28). -/
def Slot.records : Slot → List UnitParams
  | .empty => []
  | .opened c | .complete c | .failed c _ => c.records

/-- The number of unit records of the staged slot that name curve k (R24, R28). -/
def State.stagedUses (s : State) (k : Nat) : Nat := s.slot.records.countP (fun p => p.curve == k)

/-- The number of used units of the active job that name curve k; 0 while no job is active (R23, R26). -/
def State.activeUses (s : State) (k : Nat) : Nat :=
  match s.job with
  | none => 0
  | some j => j.records.countP (fun p => p.curve == k)

/-- The unit record of a used unit (R44). -/
def ActiveJob.record? (j : ActiveJob) (u : Nat) : Option UnitParams :=
  if j.units.contains u then j.records.find? (fun p => p.unit == u) else none

/-! ### Lines (R131) -/

/-- The controller of key line u. -/
def State.line (s : State) (u : Nat) : Line := at1 s.lines u .afterReset

def State.setLine (s : State) (u : Nat) (l : Line) : State := { s with lines := put1 s.lines u l }

/-! ### Supply Control and the queues (R111, R157 to R160) -/

/-- SUPPLY-EN: asserted while the state is WARMING or ON (R157). -/
def Supply.enable (p : Supply) : Bool := p.state == .warming || p.state == .on

def State.queue (s : State) (u : Nat) : List Nat := at1 s.queues u []

/-- The number of zones standing in the move queues of the device (R163). -/
def State.queuedCount (s : State) : Nat := (s.queues.toList.map List.length).sum

/-- Every move queue of the device is empty (R160). -/
def State.queuesEmpty (s : State) : Bool := s.queues.toList.all List.isEmpty

/-- The entry into WARMING: the warm-up limit starts, or the state becomes ON at once when the filtered SUPPLY-OK level
is high (R159). -/
def State.startWarmUp (s : State) : State :=
  if s.supply.ok.filtered then { s with supply := { s.supply with state := .on, warmUp := none } }
  else { s with supply := { s.supply with state := .warming, warmUp := some s.clock.now.ms } }

/-- A zone joins the tail of its unit's queue (R111). The standby timer stops (R160); a queue that turns non-empty while
the supply is OFF starts the warm-up (R159). -/
def State.enqueue (s : State) (u z : Nat) : State :=
  let t := { s with
    queues := put1 s.queues u (s.queue u ++ [z]), supply := { s.supply with standby := none } }
  if s.supply.state == .off && (s.queue u).isEmpty then t.startWarmUp else t

/-- A zone leaves its unit's queue from wherever it stands; the zones behind it close up (R111). -/
def State.dequeue (s : State) (u z : Nat) : State :=
  { s with queues := put1 s.queues u ((s.queue u).filter (fun y => y != z)) }

/-- The standby condition (R160). -/
def State.standbyCondition (s : State) : Bool :=
  s.supply.state == .on && s.queuesEmpty && s.movingCount == 0

/-- The standby timer starts at the moment the standby condition becomes true: the condition holds, the timer stands and
the standby time is not 0 (R160). -/
def State.standbyRefresh (s : State) : State :=
  if s.standbyCondition && s.supply.standby.isNone && s.limits.standbyS != 0 then
    { s with supply := { s.supply with standby := some ⟨s.clock.now.ms, s.limits.standbyS * 1000⟩ } }
  else s

/-- The preset test: with the flag set and no zone QUEUED, MOVING or UNKNOWN, PRESET_DONE is posted and the flag cleared
(R51). -/
def State.presetTest (s : State) : State :=
  if s.preset && s.zones.all (fun r => r.state != .queued && r.state != .moving && r.state != .unknown) then
    { s.post .presetDone with preset := false }
  else s

/-- What follows the key state changes of one event: the standby timer (R160) and the preset test (R51, R112). -/
def State.settle (s : State) : State := s.standbyRefresh.presetTest

/-! ### Entering a key state (R106, R110, R111, R127) -/

/-- Entering BLOCKED, FAULTED or MISSED posts KEY_ALERT (R127). -/
def KeyState.alerts : KeyState → Bool
  | .missed | .blocked | .faulted => true
  | .unknown | .idle | .settled | .queued | .moving | .disabled => false

/-- The record of a zone that enters state k from any state, k other than MOVING: stale and retry due flags clear, halt
reasons empty, move start and poll-due times absent, fault cause as given (R13, R106, R148). -/
def ZoneRec.rest (r : ZoneRec) (k : KeyState) (cause : Option FaultCause) : ZoneRec :=
  { r with
    state := k, stale := false, retryDue := false, halts := .none, moveStart := none, pollDue := none, faultCause := cause }

/-- Zone (u, z) enters key state k other than MOVING, its record then changed by `g`: it leaves its queue when it was
QUEUED and joins the tail when k is QUEUED (R111); entering BLOCKED, FAULTED or MISSED posts KEY_ALERT (R127); the last
zone to leave UNKNOWN posts SURVEY_DONE (R110). -/
def State.enter (u z : Nat) (k : KeyState) (cause : Option FaultCause) (g : ZoneRec → ZoneRec) (s : State) : State :=
  match s.zone? u z with
  | none => s
  | some r =>
    let s1 := s.modZone u z (fun r => g (r.rest k cause))
    let s2 := if r.state = .queued then s1.dequeue u z else s1
    let s3 := if k = .queued then s2.enqueue u z else s2
    let s4 := if k.alerts then s3.post .keyAlert else s3
    if r.state = .unknown ∧ k ≠ .unknown ∧ s4.noneUnknown then s4.post .surveyDone else s4

/-! ### Requests (R176 to R178) -/

/-- The part answers its ports and watches its pins (R172, R175). -/
def State.isRunning (s : State) : Bool := s.press.phase == .running

/-- A frame of n whole words clocked while the ports do not answer: all ones, and the frame is not taken (R172, R175). -/
def State.shiftOnes (s : State) (p : Port) (n : Nat) : State :=
  s.modPort p (fun c => { c with out := List.replicate n 0xFFFF })

/-- The word 0 is shifted out during the first word of a frame (R175). -/
def State.shiftZero (s : State) (p : Port) : State := s.modPort p (fun c => { c with out := [0] })

/-- The dropped flag is set (R175, R176). -/
def State.setDropped (s : State) (p : Port) : State := s.modPort p (fun c => { c with dropped := true })

/-- The account of the kept tables with what a request that port p begins to execute has written: the latest write under
way (R178; log 7). -/
def Kept.note (k : Kept) (p : Port) : Option TableWrite → Kept
  | none => k
  | some w => { k with underWay := k.underWay ++ [(p, w)] }

/-- The port is BUSY with a request whose execution will leave the answer `a` and has written `wrote` (R176, R178). -/
def State.beginExecution (s : State) (p : Port) (code : BitVec 8) (tag : BitVec 4) (a : Answer)
    (wrote : Option TableWrite) : State :=
  { s with kept := s.kept.note p wrote }.modPort p (fun c => { c with cmd := .busy ⟨code, tag, a.outcome, a.data⟩ false })

/-- A REQUEST frame is clocked at a port: not taken unless the part is RUNNING (R175), discarded with the dropped flag set
while the port is BUSY (R176), and otherwise handed to `take`. -/
def takeRequest (f : Frame) (take : State → State) (s : State) : Host.Outcome State Fault Refusal :=
  if !s.isRunning then .next (s.shiftOnes f.port (frameClocked f))
  else if (s.port f.port).isBusy then .next ((s.shiftZero f.port).setDropped f.port)
  else .next (take (s.shiftZero f.port))

/-- The table entry that a request with operand words `ws` has written, in the state `t` its effects leave: accepted
DEFINE CURVE and DELETE CURVE write a curve slot (R24, R25), accepted SET KEY CAL a calibration entry (R85). -/
def tableWrite (q : Req) (ws : List Word) (o : ResultCode) (t : State) : Option TableWrite :=
  if o = .ok then
    match q with
    | .defineCurve | .deleteCurve => some (.curve (operand ws 0) (t.curve? (operand ws 0)))
    | .setKeyCal => some (.cal (operand ws 0) (operand ws 1) (t.calEntry (operand ws 0) (operand ws 1)))
    | _ => none
  else none

/-- A request is judged by the Port Controller and executed whole (R177, R178): a refusal of steps 2 to 4, or the
request's own meaning `body`, which answers the state and the result. -/
def judged (q : Req) (f : Frame) (body : List Word → State → State × Answer) (s : State) : State :=
  match frameRefusal q f s.device with
  | some a => s.beginExecution f.port (reqCode q) f.tag a none
  | none =>
    let r := body f.words s
    r.1.beginExecution f.port (reqCode q) f.tag r.2 (tableWrite q f.words r.2.outcome r.1)

/-- A request command (R176 to R178). -/
def runRequest (q : Req) (f : Frame) (body : List Word → State → State × Answer) (s : State) :
    Host.Outcome State Fault Refusal :=
  takeRequest f (judged q f body) s

/-- A refusal by the request's own checks: no state but the port's changes. -/
def refuse (s : State) (c : ResultCode) (data : List Word) : State × Answer := (s, ⟨c, data⟩)

/-- An accepted request's state and data words. -/
def accept (s : State) (data : List Word) : State × Answer := (s, ⟨.ok, data⟩)

/-! ### The tables a reset keeps (R172, R174; log 7) -/

/-- The two writes are on one entry. -/
def TableWrite.sameEntry : TableWrite → TableWrite → Bool
  | .curve k _, .curve j _ => k == j
  | .cal u z _, .cal v y _ => u == v && z == y
  | .curve _ _, .cal _ _ _ | .cal _ _ _, .curve _ _ => false

/-- The kept tables with one entry written. -/
def Kept.store (k : Kept) : TableWrite → Kept
  | .curve i c => { k with curves := k.curves.setIfInBounds i c }
  | .cal u z e => { k with cal := putCal k.cal u z e }

/-- The execution on port p ends: what it wrote is kept, and what requests executed before it have written to the same
entry is not kept any more when they end, as it was replaced (R29, R31, R178). -/
def Kept.finish (k : Kept) (p : Port) : Kept :=
  match k.underWay.dropWhile (fun e => e.1 != p) with
  | [] => k
  | (_, w) :: after =>
    { k.store w with
      underWay := (k.underWay.takeWhile (fun e => e.1 != p)).filter (fun e => !e.2.sameEntry w) ++ after }

/-- The account without what the requests still being executed have written (R172, R174). -/
def Kept.discard (k : Kept) : Kept := { k with underWay := [] }

/-- At the end of an execution on port p a reset no longer takes back the entry its request wrote. -/
def State.commit (p : Port) (s : State) : State :=
  if (s.port p).isBusy then { s with kept := s.kept.finish p } else s

/-! ### The clock (R7, R140) -/

/-- One microsecond later. -/
def Instant.tick (t : Instant) : Instant :=
  if t.us = 999 then ⟨t.ms + 1, 0⟩ else ⟨t.ms, t.us + 1⟩

/-- One microsecond of the part (log 4): the part time and the Echo Timer run outside START-UP and HELD (R7, R140); the
time of the phase runs in START-UP and ANSWER DELAY (R172, R173). -/
def State.tick (s : State) : State :=
  match s.press.phase with
  | .startUp => { s with clock := { s.clock with phaseUs := s.clock.phaseUs + 1 } }
  | .held => s
  | .answerDelay =>
    { s with clock := { now := s.clock.now.tick, echo := s.clock.echo + 1, phaseUs := s.clock.phaseUs + 1 } }
  | .running => { s with clock := { s.clock with now := s.clock.now.tick, echo := s.clock.echo + 1 } }

/-! ### Resets (R17, R31, R43, R130, R131, R165, R166, R172 to R174, R181) -/

/-- The pins of the part stay as the outside drives them. -/
def Press.heldReset (p : Press) (phase : Phase) : Press :=
  { State.reset.press with
    sheetPin := p.sheetPin, resetPin := p.resetPin, impression := p.impression.heldReset, freeze := p.freeze.heldReset,
    phase := phase }

/-- The part as power-on makes it: START-UP, every field at its power-on value, the pins as they stand (R173). -/
def State.toPowerOn (s : State) : State :=
  { State.reset with
    pending := s.pending, supply := { State.reset.supply with ok := s.supply.ok.heldReset },
    press := s.press.heldReset .startUp }

/-- The part put in reset: HELD, every field at its reset value, the Curve Table and the Key Calibration Table kept
without what a request still being executed has written (R15, R31, R172, R174). -/
def State.toHeld (s : State) : State :=
  { s.toPowerOn with
    cal := s.kept.cal, curves := s.kept.curves, kept := s.kept.discard, press := s.press.heldReset .held }

/-- A reset ends: the clocks start from 0, the three filters take their first levels and the phase becomes ANSWER DELAY
(R7, R140, R158, R169, R172). -/
def State.endReset (s : State) : State :=
  { s with
    clock := { now := .zero, echo := 0, phaseUs := 0 }
    supply := { s.supply with ok := s.supply.ok.sample }
    press := { s.press with
      impression := s.press.impression.sample, freeze := s.press.freeze.sample, phase := .answerDelay } }

end Sys2Proof.Machine
end

