-- ==== Sys2Proof/Machine/Readout.lean ====
section
/-! DEFINITION. The requests common to all ports: readouts, masks and acknowledgements. -/

namespace Sys2Proof.Machine

/-- The data of IDENTIFY (R16). -/
def identifyData (s : State) : List Word :=
  ([Config.partCode, Config.revision, Config.maxUnits, Config.maxZones, Config.curveSlots, Config.budgetMax, s.unitCount]
    ++ s.nz).map uword

def execIdentify (f : Frame) (s : State) : Host.Outcome State Fault Refusal :=
  runRequest .identify f (fun _ t => accept t (identifyData t)) s

/-- The data of READ STATUS (R182). -/
def statusData (s : State) : List Word :=
  [uword (deviceCode s.device), upper s.press.sheets, lower s.press.sheets, bword s.press.impression.filtered,
    bword s.press.freeze.filtered, bword s.hold, uword (supplyCode s.supply.state), uword s.movingCount,
    uword s.limits.budget]

def execReadStatus (f : Frame) (s : State) : Host.Outcome State Fault Refusal :=
  runRequest .readStatus f (fun _ t => accept t (statusData t)) s

/-- A flag as bit i of a word. -/
def flagBit (b : Bool) (i : Nat) : Nat := if b then 2 ^ i else 0

/-- The zone readout record (11_command_ports_and_notices.md, layouts; R183). -/
def readoutRecord (r : ZoneRec) : List Word :=
  [uword (r.unit * 4096 + r.zone * 64 + keyStateCode r.state * 4 + faultCauseCode r.faultCause),
    uword (flagBit r.coverage.isSome 15 + flagBit r.effective.isSome 14 + flagBit r.base.isSome 13
      + flagBit r.target.isSome 12 + flagBit r.measured.isSome 11 + flagBit r.echoWidth.isSome 10
      + flagBit r.settleStamp.isSome 9 + flagBit r.limit 8 + flagBit r.loopHold 7 + flagBit r.stale 6 + r.retries * 16
      + flagBit r.halts.freeze 0 + flagBit r.halts.timeout 1 + flagBit r.halts.disable 2 + flagBit r.halts.survey 3),
    uword (r.coverage.getD 0), uword (r.effective.getD 0), uword (r.base.getD 0), uword (r.target.getD 0),
    sword r.consoleTrim, sword r.loopTrim, uword (r.measured.getD 0),
    uword (r.failures * 16384 + r.echoWidth.getD 0), upper (r.settleStamp.getD 0), lower (r.settleStamp.getD 0)]

/-- The records of the zones f to f + n − 1 of unit u, in ascending zone order. -/
def State.rangeZones (s : State) (u f n : Nat) : List ZoneRec :=
  s.zones.filter (fun r => r.unit == u && f ≤ r.zone && r.zone < f + n)

/-- READ ZONES (R183). -/
def readZonesBody (ws : List Word) (s : State) : State × Answer :=
  let u := operand ws 0
  let f := operand ws 1
  let n := operand ws 2
  if !s.validRange u f n then refuse s .badParam []
  else accept s ([uword u, uword f, uword n] ++ (s.rangeZones u f n).flatMap readoutRecord)

def execReadZones (f : Frame) (s : State) : Host.Outcome State Fault Refusal := runRequest .readZones f readZonesBody s

/-- The seven words of an active unit (R52). -/
def activeUnitWords (p : UnitParams) : List Word :=
  [uword p.unit, uword p.curve, uword p.sweep, uword p.s1, uword p.s2, uword p.first, uword p.last]

/-- The eight words of a listed unit of the staged slot (R52). -/
def stagedUnitWords (c : Stage) (u : Nat) : List Word :=
  match c.records.find? (fun p => p.unit == u) with
  | some p => [uword u, 1, uword p.curve, uword p.sweep, uword p.s1, uword p.s2, uword p.first, uword p.last]
  | none => [uword u, 0, 0, 0, 0, 0, 0, 0]

/-- What the staged slot holds, absent when EMPTY (R33). -/
def Slot.content : Slot → Option Stage
  | .empty => none
  | .opened c | .complete c | .failed c _ => some c

/-- The failure cause code of the slot, 0 for none (R52). -/
def Slot.causeCode : Slot → Nat
  | .failed _ cause => stageCauseCode cause
  | .empty | .opened _ | .complete _ => 0

/-- The words of READ JOB that tell of the staged slot's content: job number, total, received, clamp count (R52). -/
def slotWords (c : Option Stage) : List Word :=
  match c with
  | none => [0, 0, 0, 0]
  | some c => [uword c.jobNo, uword c.expected, uword c.stream.length, uword c.clamped]

/-- The active units of READ JOB in list order (R52). -/
def activeUnits (j : Option ActiveJob) : List UnitParams :=
  match j with
  | none => []
  | some j => j.units.filterMap (fun u => j.record? u)

/-- The data of READ JOB (R52). -/
def readJobData (s : State) : List Word :=
  let units := match s.slot.content with
    | none => []
    | some c => c.units
  [uword (deviceCode s.device), uword (match s.job with
      | none => 0
      | some j => j.jobNo), bword s.preset, uword (s.zones.countP (fun r => r.state != .settled)),
      uword (slotCode s.slot), uword s.slot.causeCode]
    ++ slotWords s.slot.content
    ++ [uword (activeUnits s.job).length, uword units.length]
    ++ (activeUnits s.job).flatMap activeUnitWords
    ++ (match s.slot.content with
      | none => []
      | some c => c.units.flatMap (stagedUnitWords c))

def execReadJob (f : Frame) (s : State) : Host.Outcome State Fault Refusal :=
  runRequest .readJob f (fun _ t => accept t (readJobData t)) s

/-- The words of a defined slot's content (R28). -/
def curveWords (c : Option Curve) : List Word :=
  match c with
  | none => []
  | some c => [uword c.fref, uword c.points.length] ++ c.points.flatMap (fun q => [uword q.x, uword q.y])

/-- READ CURVE (R28). -/
def readCurveBody (ws : List Word) (s : State) : State × Answer :=
  let k := operand ws 0
  if 15 < k then refuse s .badParam [1, 0]
  else accept s ([uword k, bword (s.curve? k).isSome, uword (s.activeUses k), uword (s.stagedUses k)]
    ++ curveWords (s.curve? k))

def execReadCurve (f : Frame) (s : State) : Host.Outcome State Fault Refusal := runRequest .readCurve f readCurveBody s

/-- A word that carries a set of kinds; a word with any of bits 8 to 15 set names none (R185 to R187). -/
def kindsOperand (ws : List Word) (i : Nat) : Option (BitVec 8) :=
  if operand ws i < 256 then some (BitVec.ofNat 8 (operand ws i)) else none

/-- SET MASK (R185). -/
def setMaskBody (p : Port) (ws : List Word) (s : State) : State × Answer :=
  match kindsOperand ws 0 with
  | none => refuse s .badParam []
  | some m =>
    accept (s.modPort p (fun c => { c with mask := m }))
      [uword (s.port p).mask.toNat, uword (s.port p).notices.toNat]

def execSetMask (f : Frame) (s : State) : Host.Outcome State Fault Refusal := runRequest .setMask f (setMaskBody f.port) s

/-- ACK NOTICES (R186). -/
def ackNoticesBody (p : Port) (ws : List Word) (s : State) : State × Answer :=
  match kindsOperand ws 0 with
  | none => refuse s .badParam []
  | some w =>
    if (s.port p).test then refuse s .testActive []
    else
      accept (s.modPort p (fun c => { c with notices := c.notices &&& ~~~w }))
        [uword ((s.port p).notices &&& ~~~w).toNat]

def execAckNotices (f : Frame) (s : State) : Host.Outcome State Fault Refusal :=
  runRequest .ackNotices f (ackNoticesBody f.port) s

end Sys2Proof.Machine
end

