-- ==== Sys2Proof/Machine/SetPoint.lean ====
section
/-! DEFINITION. The Set-Point Engine: the chain from coverage to target (R55 to R65) and the conversions at the key line
(R66 to R68). -/

namespace Sys2Proof.Machine

/-! ### The chain -/

/-- The coverage of zone (u, z) in its record. -/
def coverageAt (zones : List ZoneRec) (u z : Nat) : Option Nat :=
  (zones.find? (fun r => r.isZone u z)).bind (fun r => r.coverage)

/-- The value a neighbour enters the weighted sum with: its own coverage when it exists inside the sheet width, the
coverage `c` of the zone being computed otherwise (R60). -/
def neighbourValue (zones : List ZoneRec) (p : UnitParams) (u z c : Nat) : Nat :=
  if p.first ≤ z ∧ z ≤ p.last ∧ z ≠ 0 then (coverageAt zones u z).getD c else c

/-- The effective coverage of an open zone z with coverage c (R59). A neighbour below zone 1 is judged as zone 0, which
does not exist. -/
def spread (zones : List ZoneRec) (p : UnitParams) (u z c : Nat) : Nat :=
  let v := fun y => neighbourValue zones p u y c
  roundHalfUp
    ((64 - 2 * p.s1 - 2 * p.s2) * c + p.s1 * (v (z - 1) + v (z + 1)) + p.s2 * (v (z - 2) + v (z + 2))) 64

/-- The opening of a curve at effective coverage e: a breakpoint's own opening, or interpolated on the segment that holds
e (R61, R62). -/
def curveOpening : List Breakpoint → Nat → Nat
  | [], _ => 0
  | [q], _ => q.y
  | a :: b :: rest, e =>
    if e = a.x then a.y
    else if e < b.x then a.y + roundHalfUp ((e - a.x) * (b.y - a.y)) (b.x - a.x)
    else curveOpening (b :: rest) e

/-- The sweep stage (R63). -/
def sweepOpening (b fref sweep : Nat) : Nat := roundHalfUp (b * fref) sweep

/-- The trimmed sum (R64). -/
def trimmedSum (base : Nat) (consoleTrim loopTrim : Int) : Int := base + consoleTrim + loopTrim

/-- The target: the trimmed sum clamped to 0 to 500 (R64). -/
def clampTarget (t : Int) : Nat := (clampInt 0 500 t).toNat

/-- A zone is closed when it lies outside its unit's sheet width (R58). -/
def UnitParams.closes (p : UnitParams) (z : Nat) : Bool := z < p.first || p.last < z

/-- The effective coverage and base opening of an open zone (R59 to R63). -/
def openingOf (s : State) (p : UnitParams) (r : ZoneRec) : Nat × Nat :=
  let e := spread s.zones p r.unit r.zone (r.coverage.getD 0)
  let c := (s.curve? p.curve).getD ⟨0, []⟩
  (e, sweepOpening (curveOpening c.points e) c.fref p.sweep)

/-- The fields of a zone record computed by the set-point chain for an active job (R56, R58, R64). -/
def setPoint (s : State) (j : ActiveJob) (r : ZoneRec) : ZoneRec :=
  match j.record? r.unit with
  | none => { r with coverage := none, effective := none, base := none, target := some 0, limit := false }
  | some p =>
    if p.closes r.zone then
      { r with effective := r.coverage, base := some 0, target := some 0, limit := false }
    else
      let eb := openingOf s p r
      let t := trimmedSum eb.2 r.consoleTrim r.loopTrim
      { r with
        effective := some eb.1, base := some eb.2, target := some (clampTarget t), limit := t < 0 || 500 < t }

/-- The zones whose target differs between two lists of the same records, in their order (R71). -/
def changedTargets (old new : List ZoneRec) : List (Nat × Nat) :=
  ((old.zip new).filter (fun q => q.1.target != q.2.target)).map (fun q => (q.2.unit, q.2.zone))

/-- While a job is active, every zone that `p` selects is recomputed; the batch holds the zones whose target changed
(R69, R71). With no active job nothing is computed and the batch is empty (R65). -/
def State.recompute (s : State) (p : ZoneRec → Bool) : State × List (Nat × Nat) :=
  match s.job with
  | none => (s, [])
  | some j =>
    let new := s.zones.map (fun r => if p r then setPoint s j r else r)
    ({ s with zones := new }, changedTargets s.zones new)

/-! ### Conversions at the key line -/

/-- The target ticks of a MOVE (R66). -/
def targetTicks (e : CalEntry) (target : Nat) : Nat := e.zero + roundHalfUp (target * 4096) e.gain

/-- The value q converted from an echo width (R67). -/
def echoValue (e : CalEntry) (w : Nat) : Int := roundHalfAway (((w : Int) - (e.zero : Int)) * (e.gain : Int)) 4096

/-- The measured position of a plausible q, or none when q is implausible (R68). -/
def plausiblePosition (q : Int) : Option Nat :=
  if -20 ≤ q ∧ q ≤ 520 then some (clampInt 0 500 q).toNat else none

end Sys2Proof.Machine
end

