-- ==== Sys2Proof/Machine/Scheduler.lean ====
section
/-! DEFINITION. The Move Scheduler: evaluation, retargets, batches, replies, FREEZE and supply loss. -/

namespace Sys2Proof.Machine

/-! ### Evaluation and requeue (R107) -/

/-- The evaluation of a zone at rest (R107). Every zone it reaches holds a measured position; for a record that holds a
target but no position nothing is judged (log 21). -/
def State.evaluate (u z : Nat) (s : State) : State :=
  match s.zone? u z with
  | none => s
  | some r =>
    if r.target.isNone then s.enter u z .idle none (fun r => { r with retries := 0 })
    else if r.measured.isNone then s
    else if s.within r then
      s.enter u z .settled none
        (fun q => { q with retries := 0, settleStamp := if r.state = .settled then q.settleStamp else some s.press.sheets })
    else s.enter u z .queued none (fun r => { r with retries := 0 })

/-- A zone sent to the tail of its queue by a rule that does not evaluate it: QUEUED, or IDLE while its target is absent;
the retry count is kept (R107, R124, R129, R161). -/
def State.requeue (u z : Nat) (s : State) : State :=
  match s.zone? u z with
  | none => s
  | some r => s.enter u z (if r.target.isNone then .idle else .queued) none id

/-! ### Retargets (R112 to R115) -/

/-- One zone of a batch, handled by its key state when it is reached (R112 to R115). A QUEUED zone that leaves its queue
here keeps its retry count (log 14). -/
def State.retarget (u z : Nat) (s : State) : State :=
  match s.zone? u z with
  | none => s
  | some r =>
    match r.state with
    | .idle | .settled | .missed => s.evaluate u z
    | .queued =>
      if r.target.isNone then s.enter u z .idle none id
      else if s.within r then s.enter u z .settled none (fun r => { r with settleStamp := some s.press.sheets })
      else s
    | .moving => s.modZone u z (fun r => { r with stale := true })
    | .unknown | .blocked | .faulted | .disabled => s

/-- A batch is handed to the Move Scheduler and evaluated zone by zone in its order; then the standby condition and the
preset condition are tested (R71, R112). -/
def State.handBatch (s : State) (batch : List (Nat × Nat)) : State :=
  (batch.foldl (fun t q => t.retarget q.1 q.2) s).settle

/-! ### Replies (R108, R109, R119 to R128, R145) -/

/-- The status of a good symbol (R135). -/
inductive Status where
  | running | stopped | stalled
  deriving DecidableEq, Repr

/-- The judgement of a transaction (R143). -/
inductive Verdict where
  | valid (status : Status) (width position : Nat)
  | noReply
  | lineError
  deriving DecidableEq, Repr

/-- The time since the zone's move start time, in milliseconds (R109, R120). -/
def State.moveAge (s : State) (r : ZoneRec) : Nat :=
  match r.moveStart with
  | some t => elapsedMs s.clock.now.ms t
  | none => 0

/-- The move limit in force, in milliseconds (R88). -/
def State.moveLimitMs (s : State) : Nat := s.limits.moveLimitS * 1000

/-- A poll made due one poll interval after the end of the transaction, for a zone whose halt reasons are empty (R119,
R120, R148). -/
def State.setPollDue (u z : Nat) (s : State) : State :=
  s.modZone u z (fun r => if r.halts.any then r else { r with pollDue := some ⟨s.clock.now.ms, s.limits.pollMs⟩ })

/-- TIMEOUT joins the halt reasons, and the HALT stands in the poll's place (R120, R148). -/
def State.addTimeout (u z : Nat) (s : State) : State :=
  s.modZone u z (fun r => { r with halts := { r.halts with timeout := true }, pollDue := none })

/-- A STALLED reply: the zone becomes BLOCKED with cause STALL (R125). -/
def State.stall (u z : Nat) (s : State) : State := s.enter u z .blocked (some .stall) id

/-- The zone becomes BLOCKED with cause TIMEOUT (R109, R124). -/
def State.blockTimeout (u z : Nat) (s : State) : State := s.enter u z .blocked (some .timeout) id

/-- A STOPPED survey reply evaluates the zone; a RUNNING one starts a SURVEY halt (R108). -/
def State.surveyReply (u z : Nat) (st : Status) (s : State) : State :=
  match st with
  | .stopped => s.evaluate u z
  | .running =>
    s.modZone u z (fun r => { r with halts := { r.halts with survey := true }, moveStart := some s.clock.now.ms })
  | .stalled => s.stall u z

/-- A valid reply for an UNKNOWN zone with a halt pending (R109). -/
def State.unknownHaltReply (u z : Nat) (r : ZoneRec) (st : Status) (s : State) : State :=
  match st with
  | .stopped => s.enter u z (if r.halts.disable then .disabled else .unknown) none id
  | .running => if s.moveLimitMs < s.moveAge r then s.blockTimeout u z else s
  | .stalled => s.stall u z

/-- A valid reply to a MOVE of a MOVING zone (R119). -/
def State.moveReply (u z : Nat) (st : Status) (s : State) : State :=
  match st with
  | .running | .stopped => s.setPollDue u z
  | .stalled => s.stall u z

/-- A RUNNING reply to a poll or HALT of a MOVING zone: the timeout test, then the next poll for a poll (R120). -/
def State.runningReply (u z : Nat) (r : ZoneRec) (poll : Bool) (s : State) : State :=
  if s.moveLimitMs < s.moveAge r then s.addTimeout u z else if poll then s.setPollDue u z else s

/-- A retry falls due (R121 case 4); while FREEZE is asserted it is resolved as at the assertion (R129). -/
def State.retryFallsDue (u z : Nat) (s : State) : State :=
  let t := s.modZone u z (fun r => { r with retries := r.retries + 1, retryDue := true, pollDue := none })
  if s.press.freeze.filtered then t.requeue u z else t

/-- A STOPPED reply to a poll of a MOVING zone (R121). -/
def State.pollStopped (u z : Nat) (r : ZoneRec) (s : State) : State :=
  if r.halts.any then s
  else if r.target.isNone then s.enter u z .idle none (fun r => { r with retries := 0 })
  else if s.within r then
    s.enter u z .settled none (fun r => { r with settleStamp := some s.press.sheets, retries := 0 })
  else if r.stale then s.enter u z .queued none (fun r => { r with retries := 0 })
  else if r.retries < 2 then s.retryFallsDue u z
  else s.enter u z .missed none id

/-- A valid reply to a HALT of a MOVING zone (R124). -/
def State.haltReply (u z : Nat) (r : ZoneRec) (st : Status) (s : State) : State :=
  match st with
  | .stopped =>
    if r.halts.disable then s.enter u z .disabled none id
    else if r.halts.timeout then s.blockTimeout u z
    else s.requeue u z
  | .running =>
    if r.halts.timeout && 2 * s.moveLimitMs < s.moveAge r then s.blockTimeout u z else s.runningReply u z r false
  | .stalled => s.stall u z

/-- A valid reply is taken by the key state the zone holds when the transaction ends; `r` is its record with the position
fields already written (R144, R145). No transaction ends for a MISSED, BLOCKED or FAULTED zone (R132, R145); the record of
one keeps its key state (log 21). -/
def State.takeReply (u z : Nat) (r : ZoneRec) (v : Verb) (st : Status) (s : State) : State :=
  match r.state with
  | .disabled => s
  | .unknown => if r.halts.any then s.unknownHaltReply u z r st else s.surveyReply u z st
  | .moving =>
    match v with
    | .move => s.moveReply u z st
    | .sense =>
      match st with
      | .running => s.runningReply u z r true
      | .stopped => s.pollStopped u z r
      | .stalled => s.stall u z
    | .halt => s.haltReply u z r st
  | .queued | .idle | .settled => if st = .stalled then s.stall u z else s
  | .missed | .blocked | .faulted => s

/-- The position fields and the failure count of a valid reply (R144 steps 1 and 2). A FAULTED zone keeps its count at 3
(R126). -/
def State.writeEcho (u z w p : Nat) (s : State) : State :=
  s.modZone u z (fun r => { r with
    measured := some p, echoWidth := some w, echoTime := some s.clock.now.ms,
    failures := if r.state = .faulted then r.failures else 0 })

/-- What a first or second failure leaves as the zone's next work (R146): a poll due after a failed MOVE (R119), a failed
poll's due time restored (R148). -/
def State.afterFailure (u z : Nat) (v : Verb) (saved : Option PollDue) (s : State) : State :=
  match s.zone? u z with
  | none => s
  | some r =>
    if r.state = .moving then
      match v with
      | .move => s.setPollDue u z
      | .sense => s.modZone u z (fun r => if r.halts.any then r else { r with pollDue := saved })
      | .halt => s
    else s

/-- A failure is counted, and the third makes the zone FAULTED with cause LINE; for a DISABLED zone it is not counted
(R82, R126, R146). -/
def State.takeFailure (u z : Nat) (r : ZoneRec) (v : Verb) (saved : Option PollDue) (s : State) : State :=
  if r.state = .disabled then s
  else if 2 ≤ r.failures then s.enter u z .faulted (some .line) (fun r => { r with failures := 3 })
  else (s.modZone u z (fun r => { r with failures := r.failures + 1 })).afterFailure u z v saved

/-- The end of a transaction as the Key Line Controller and the Move Scheduler take it (R144 to R146). -/
def State.takeVerdict (u : Nat) (t : Txn) (v : Verdict) (s : State) : State :=
  match s.zone? u t.zone with
  | none => s
  | some r =>
    match v with
    | .noReply | .lineError => (s.takeFailure u t.zone r t.verb t.savedPoll).settle
    | .valid st w p =>
      let s1 := s.writeEcho u t.zone w p
      match s1.zone? u t.zone with
      | none => s1
      | some r1 => (s1.takeReply u t.zone r1 t.verb st).settle

/-! ### FREEZE (R129) and supply loss (R161) -/

/-- One MOVING zone at the assertion of FREEZE (R129). -/
def State.freezeZone (u z : Nat) (s : State) : State :=
  match s.zone? u z with
  | none => s
  | some r =>
    if r.state = .moving then
      if r.retryDue then (if r.stale then s.evaluate u z else s.requeue u z)
      else s.modZone u z (fun r => { r with halts := { r.halts with freeze := true }, pollDue := none })
    else s

/-- The zones of the device, in ascending unit and zone order (R112). -/
def State.zoneIds (s : State) : List (Nat × Nat) := s.zones.map (fun r => (r.unit, r.zone))

/-- The filtered FREEZE level becomes asserted (R129, R171). -/
def State.freezeAsserted (s : State) : State :=
  (s.zoneIds.foldl (fun t q => t.freezeZone q.1 q.2) s).settle

/-- One MOVING zone at a supply loss (R161). -/
def State.loseZone (u z : Nat) (s : State) : State :=
  match s.zone? u z with
  | none => s
  | some r => if r.state = .moving then s.requeue u z else s

/-- A supply loss: FAILED, SUPPLY-EN deasserted, both timers stopped, every MOVING zone requeued, SUPPLY_ALERT posted
(R161). -/
def State.supplyLoss (s : State) : State :=
  let t := { s with supply := { s.supply with state := .failed, warmUp := none, standby := none } }
  ((t.zoneIds.foldl (fun t q => t.loseZone q.1 q.2) t).post .supplyAlert).settle

end Sys2Proof.Machine
end

