-- ==== Sys2Proof/Machine/ConsoleControl.lean ====
section
/-! DEFINITION. The console's device-wide requests: HOLD, limits, supply retry, loop parameters, test posting (R87, R88,
R91, R163, R187). -/

namespace Sys2Proof.Machine

/-! ### HOLD (R87) -/

/-- HOLD set or cleared; the result tells what it was (R87). -/
def holdBody (hold : Bool) (_ws : List Word) (s : State) : State × Answer := accept { s with hold := hold } [bword s.hold]

def execHoldKeys (f : Frame) (s : State) : Host.Outcome State Fault Refusal := runRequest .holdKeys f (holdBody true) s

def execResumeKeys (f : Frame) (s : State) : Host.Outcome State Fault Refusal := runRequest .resumeKeys f (holdBody false) s

/-! ### SET LIMITS (R88, R89, R160) -/

/-- The operand number of the first operand of SET LIMITS that fails (R88). -/
def limitsCheck (l : Limits) : Option Nat :=
  if l.budget < 1 ∨ 24 < l.budget then some 1
  else if l.tolerance < 1 ∨ 20 < l.tolerance then some 2
  else if l.pollMs < 20 ∨ 500 < l.pollMs ∨ l.pollMs % 10 ≠ 0 then some 3
  else if l.moveLimitS < 1 ∨ 30 < l.moveLimitS then some 4
  else if 255 < l.standbyS then some 5
  else none

/-- The standby timer after SET LIMITS: running, it starts again with the new time or stops at 0; stopped by an old time
of 0 while the standby condition holds, it starts (R89, R160). -/
def State.standbyAtLimits (s : State) (standbyS : Nat) : Option Standby :=
  let fresh := if standbyS = 0 then none else some ⟨s.clock.now.ms, standbyS * 1000⟩
  match s.supply.standby with
  | some _ => fresh
  | none => if s.limits.standbyS = 0 && s.standbyCondition then fresh else none

/-- The five limits as data words (R88). -/
def limitsWords (l : Limits) : List Word :=
  [uword l.budget, uword l.tolerance, uword l.pollMs, uword l.moveLimitS, uword l.standbyS]

/-- SET LIMITS (R88, R89). -/
def setLimitsBody (ws : List Word) (s : State) : State × Answer :=
  let l : Limits :=
    { budget := operand ws 0, tolerance := operand ws 1, pollMs := operand ws 2, moveLimitS := operand ws 3,
      standbyS := operand ws 4 }
  match limitsCheck l with
  | some i => refuse s .badParam [uword i]
  | none =>
    accept { s with limits := l, supply := { s.supply with standby := s.standbyAtLimits l.standbyS } }
      (limitsWords s.limits)

def execSetLimits (f : Frame) (s : State) : Host.Outcome State Fault Refusal := runRequest .setLimits f setLimitsBody s

/-! ### SUPPLY RETRY (R163) -/

/-- The supply after an accepted SUPPLY RETRY: OFF, and a warm-up at once when a queue is not empty (R163). -/
def State.retrySupply (s : State) : State :=
  let t := { s with supply := { s.supply with state := .off } }
  if t.queuesEmpty then t else t.startWarmUp

/-- SUPPLY RETRY (R163). -/
def supplyRetryBody (_ws : List Word) (s : State) : State × Answer :=
  match s.supply.state with
  | .failed => accept s.retrySupply [uword (supplyCode s.retrySupply.supply.state), uword s.queuedCount]
  | .off | .warming | .on => refuse s .wrongState [uword (supplyCode s.supply.state)]

def execSupplyRetry (f : Frame) (s : State) : Host.Outcome State Fault Refusal := runRequest .supplyRetry f supplyRetryBody s

/-! ### SET LOOP PARAMETERS (R90, R91) -/

/-- The operand number of the first operand of SET LOOP PARAMETERS that fails (R90, R91). -/
def loopParamsCheck (l : LoopParams) : Option Nat :=
  if 100 < l.deadBand then some 1
  else if 40 < l.gain then some 2
  else if l.stepLimit < 1 ∨ 30 < l.stepLimit then some 3
  else if 255 < l.settleSheets then some 4
  else none

def loopParamsWords (l : LoopParams) : List Word :=
  [uword l.deadBand, uword l.gain, uword l.stepLimit, uword l.settleSheets]

/-- SET LOOP PARAMETERS (R91). -/
def setLoopParametersBody (ws : List Word) (s : State) : State × Answer :=
  let l : LoopParams :=
    { deadBand := operand ws 0, gain := operand ws 1, stepLimit := operand ws 2, settleSheets := operand ws 3 }
  match loopParamsCheck l with
  | some i => refuse s .badParam [uword i]
  | none => accept { s with loop := l } (loopParamsWords s.loop)

def execSetLoopParameters (f : Frame) (s : State) : Host.Outcome State Fault Refusal :=
  runRequest .setLoopParameters f setLoopParametersBody s

/-! ### Test posting (R187) -/

/-- SET TEST POSTING (R187). -/
def setTestPostingBody (ws : List Word) (s : State) : State × Answer :=
  match portOfCode (operand ws 0) with
  | none => refuse s .badParam []
  | some p =>
    if 1 < operand ws 1 then refuse s .badParam []
    else accept (s.modPort p (fun c => { c with test := operand ws 1 == 1 })) [bword (s.port p).test]

def execSetTestPosting (f : Frame) (s : State) : Host.Outcome State Fault Refusal :=
  runRequest .setTestPosting f setTestPostingBody s

/-- TEST NOTICE (R187). -/
def testNoticeBody (ws : List Word) (s : State) : State × Answer :=
  match portOfCode (operand ws 0) with
  | none => refuse s .badParam []
  | some p =>
    match kindsOperand ws 1 with
    | none => refuse s .badParam []
    | some w =>
      if !(s.port p).test then refuse s .testOff []
      else accept (s.postTo w p) [uword ((s.port p).notices ||| w).toNat]

def execTestNotice (f : Frame) (s : State) : Host.Outcome State Fault Refusal := runRequest .testNotice f testNoticeBody s

end Sys2Proof.Machine
end

