-- ==== Sys2Proof/Machine/Curves.lean ====
section
/-! DEFINITION. DEFINE CURVE and DELETE CURVE (R18 to R25). -/

namespace Sys2Proof.Machine

/-- The breakpoints of a frame's operand words, from x_1 onward (R21). -/
def pointsOf : List Word → List Breakpoint
  | x :: y :: rest => ⟨x.toNat, y.toNat⟩ :: pointsOf rest
  | _ => []

/-- The index, from 1, of the first element that satisfies `bad`. -/
def firstBad {α : Type} (bad : α → Bool) : List α → Option Nat
  | [] => none
  | a :: rest => if bad a then some 1 else (firstBad bad rest).map Nat.succ

/-- The neighbouring pairs of a list. -/
def pairsOf {α : Type} (l : List α) : List (α × α) := l.zip l.tail

/-- The first check of R22 that a breakpoint list fails, with its breakpoint index (checks 4 to 8). -/
def pointsCheck (pts : List Breakpoint) : Option (Nat × Nat) :=
  if (pts.head?.map Breakpoint.x) ≠ some 0 then some (4, 1)
  else if (pts.getLast?.map Breakpoint.x) ≠ some 1000 then some (5, pts.length)
  else
    match firstBad (fun q => q.2.x ≤ q.1.x) (pairsOf pts) with
    | some i => some (6, i + 1)
    | none =>
      match firstBad (fun q => 500 < q.y) pts with
      | some i => some (7, i)
      | none =>
        match firstBad (fun q => q.2.y < q.1.y) (pairsOf pts) with
        | some i => some (8, i + 1)
        | none => none

/-- The first check of R22 that DEFINE CURVE's operands fail, with the breakpoint index reported. -/
def curveCheck (k fref n : Nat) (pts : List Breakpoint) : Option (Nat × Nat) :=
  if 15 < k then some (1, 0)
  else if fref < 10 ∨ 100 < fref then some (2, 0)
  else if n < 2 ∨ 12 < n then some (3, 0)
  else pointsCheck pts

/-- DEFINE CURVE (R21 to R24). -/
def defineCurveBody (ws : List Word) (s : State) : State × Answer :=
  let k := operand ws 0
  let fref := operand ws 1
  let pts := pointsOf (ws.drop 3)
  match curveCheck k fref (operand ws 2) pts with
  | some e => refuse s .badParam [uword e.1, uword e.2]
  | none =>
    if s.activeUses k ≠ 0 then refuse s .curveInUse [uword (s.activeUses k)]
    else
      accept (s.setCurve k (some ⟨fref, pts⟩)) [uword k, bword (s.curve? k).isSome, uword (s.stagedUses k)]

def execDefineCurve (f : Frame) (s : State) : Host.Outcome State Fault Refusal :=
  runRequest .defineCurve f defineCurveBody s

/-- DELETE CURVE (R25). -/
def deleteCurveBody (ws : List Word) (s : State) : State × Answer :=
  let k := operand ws 0
  if 15 < k then refuse s .badParam [1, 0]
  else if s.activeUses k ≠ 0 then refuse s .curveInUse [uword (s.activeUses k)]
  else accept (s.setCurve k none) [uword k, bword (s.curve? k).isSome, uword (s.stagedUses k)]

def execDeleteCurve (f : Frame) (s : State) : Host.Outcome State Fault Refusal :=
  runRequest .deleteCurve f deleteCurveBody s

end Sys2Proof.Machine
end

