-- ==== Sys2Proof/Machine/Jobs.lean ====
section
/-! DEFINITION. TAKE JOB, END JOB and SET SWEEP (R44 to R49). -/

namespace Sys2Proof.Machine

/-- The coverage stream's value at the position of (u, z): the units in list order, within each its zones from 1 to
Nz(u) (R38). -/
def streamAt (nzOf : Nat → Nat) : List Nat → List Nat → Nat → Nat → Option Nat
  | [], _, _, _ => none
  | v :: rest, stream, u, z =>
    if v = u then (if z = 0 ∨ nzOf v < z then none else stream[z - 1]?)
    else streamAt nzOf rest (stream.drop (nzOf v)) u z

/-- The unit records of a staged job that name an undefined curve slot (R45). -/
def undefinedUses (s : State) (c : Stage) : List UnitParams :=
  c.records.filter (fun p => (s.curve? p.curve).isNone)

/-- The lowest undefined curve id named (R45). -/
def lowestCurve (ps : List UnitParams) : Nat := (ps.map UnitParams.curve).foldl min 15

/-- A staged job as the active job (R46). -/
def Stage.asJob (c : Stage) : ActiveJob := { jobNo := c.jobNo, units := c.units, records := c.records }

/-- A zone record before the recomputation of a take: both trims 0, the coverage from the stream (R46). -/
def takenRecord (nzOf : Nat → Nat) (c : Stage) (r : ZoneRec) : ZoneRec :=
  { r with consoleTrim := 0, loopTrim := 0, coverage := streamAt nzOf c.units c.stream r.unit r.zone }

/-- The part with the staged job taken and every target computed, and the batch: the zones whose target differs from the
one before (R46, R47). -/
def State.take (s : State) (c : Stage) : State × List (Nat × Nat) :=
  let t := { s with
    job := some c.asJob, slot := .empty, device := .jobActive, preset := true,
    zones := s.zones.map (takenRecord s.zonesOf c) }
  let new := t.zones.map (setPoint t c.asJob)
  ({ t with zones := new }, changedTargets s.zones new)

/-- The number of the active job, 0 when none (R47). -/
def State.jobNo (s : State) : Nat :=
  match s.job with
  | none => 0
  | some j => j.jobNo

/-- TAKE JOB (R45 to R47). -/
def takeJobBody (_ws : List Word) (s : State) : State × Answer :=
  match s.slot with
  | .complete c =>
    if (undefinedUses s c).isEmpty then
      let t := s.take c
      accept ((t.1.post .jobTaken).handBatch t.2) [uword c.jobNo, uword s.jobNo, uword t.2.length]
    else
      refuse s .curveMissing [uword (lowestCurve (undefinedUses s c)), uword (undefinedUses s c).length]
  | .empty | .opened _ | .failed _ _ => refuse s .notReady [uword (slotCode s.slot)]

def execTakeJob (f : Frame) (s : State) : Host.Outcome State Fault Refusal := runRequest .takeJob f takeJobBody s

/-- A zone record after the active job is removed (R48). -/
def endedRecord (r : ZoneRec) : ZoneRec :=
  { r with coverage := none, effective := none, base := none, target := none, limit := false }

/-- END JOB (R48). -/
def endJobBody (_ws : List Word) (s : State) : State × Answer :=
  match s.job with
  | none => refuse s .noJob []
  | some j =>
    let t := { s with job := none, device := .configured, preset := false, zones := s.zones.map endedRecord }
    accept (t.handBatch t.zoneIds) [uword j.jobNo]

def execEndJob (f : Frame) (s : State) : Host.Outcome State Fault Refusal := runRequest .endJob f endJobBody s

/-- The active job with a unit's sweep replaced (R49). -/
def ActiveJob.setSweep (j : ActiveJob) (u sweep : Nat) : ActiveJob :=
  { j with records := j.records.map (fun p => if p.unit == u then { p with sweep := sweep } else p) }

/-- SET SWEEP (R49). -/
def setSweepBody (ws : List Word) (s : State) : State × Answer :=
  let u := operand ws 0
  let sweep := operand ws 1
  if !s.unitConfigured u then refuse s .badParam []
  else if sweep < 10 ∨ 100 < sweep then refuse s .badParam []
  else
    match s.job with
    | none => refuse s .noJob []
    | some j =>
      match j.record? u with
      | none => refuse s .noJob []
      | some p =>
        let t := ({ s with job := some (j.setSweep u sweep) }).recompute (fun r => r.unit == u)
        accept (t.1.handBatch t.2) [uword p.sweep, uword t.2.length]

def execSetSweep (f : Frame) (s : State) : Host.Outcome State Fault Refusal := runRequest .setSweep f setSweepBody s

end Sys2Proof.Machine
end

