-- ==== Sys2Proof/Machine/Transactions.lean ====
section
/-! DEFINITION. Key line transactions: the request frame, starting and ending a transaction, the turn order and the
budget arbiter. -/

namespace Sys2Proof.Machine

/-! ### The request frame (R133) -/

/-- The verb codes (R133). -/
def verbCode : Verb → BitVec 2
  | .move => 0b01#2
  | .sense => 0b10#2
  | .halt => 0b11#2

/-- The bits of a field, most significant first. -/
def fieldBits {n : Nat} (x : BitVec n) : List Bool := (List.range n).map (fun i => x.getLsbD (n - 1 - i))

/-- The parity bit that makes the number of ones even. -/
def evenParity (bits : List Bool) : Bool := bits.foldl xor false

/-- The request frame the controller drives (R133). -/
def requestBits (zone : Nat) (v : Verb) (ticks : Option (BitVec 13)) : List Bool :=
  let body := fieldBits (BitVec.ofNat 6 zone) ++ fieldBits (verbCode v)
    ++ (match ticks with
      | some t => fieldBits t
      | none => [])
  [true] ++ body ++ [evenParity body, false]

/-- The frame a transaction drives on its line (R133, R134). -/
def Txn.bits (t : Txn) : List Bool := requestBits t.zone t.verb t.ticks

/-- The time the request frame takes, in ticks (R133). -/
def Txn.frameTicks (t : Txn) : Nat := Config.bitTicks * t.bits.length

/-- Ticks of the Echo Timer between two of its readings (R140). -/
def ticksSince (now since : BitVec 16) : Nat := (now - since).toNat

/-! ### Starting a transaction (R134) -/

/-- A transaction starts: the record is filled, the capture pair is emptied and the line enters SENDING (R134). -/
def State.startTransaction (u z : Nat) (v : Verb) (ticks : Option (BitVec 13)) (saved : Option PollDue) (s : State) : State :=
  s.setLine u
    { phase := .sending
      txn := some
        { zone := z, verb := v, ticks := ticks, started := s.clock.echo, reqEnd := none, symbolAt := none, symbol := none,
          savedPoll := saved, endedAt := none }
      haltMark := (s.line u).haltMark
      capture := .empty }

/-- The target ticks of a MOVE for zone (u, z), converted as the MOVE starts (R66). -/
def State.moveTicks (s : State) (u z : Nat) : BitVec 13 :=
  BitVec.ofNat 13 (targetTicks (s.calEntry u z) (((s.zone? u z).bind (fun r => r.target)).getD 0))

def State.startMove (u z : Nat) (s : State) : State := s.startTransaction u z .move (some (s.moveTicks u z)) none

/-- A poll SENSE starts: the poll-due time becomes absent (R148). -/
def State.startPoll (u z : Nat) (saved : Option PollDue) (s : State) : State :=
  (s.modZone u z (fun r => { r with pollDue := none })).startTransaction u z .sense none saved

/-- A retry MOVE starts: its move start time is set afresh and the retry is no longer due (R13, R122). -/
def State.startRetry (u z : Nat) (s : State) : State :=
  (s.modZone u z (fun r => { r with retryDue := false, moveStart := some s.clock.now.ms })).startMove u z

/-! ### Work offered to a line (R106) -/

def ZoneRec.haltPending (r : ZoneRec) : Bool := (r.state == .moving || r.state == .unknown) && r.halts.any

/-- The zone's poll is due: the time since the end of the transaction that set it has reached its interval (R148). -/
def ZoneRec.pollIsDue (r : ZoneRec) (now : BitVec 32) : Bool :=
  r.state == .moving && !r.halts.any &&
    (match r.pollDue with
      | some d => decide (d.interval ≤ elapsedMs now d.ended)
      | none => false)

def ZoneRec.retryIsDue (r : ZoneRec) : Bool := r.state == .moving && !r.halts.any && r.retryDue

def ZoneRec.surveyOffered (r : ZoneRec) : Bool := r.state == .unknown && !r.halts.any

/-! ### The budget arbiter (R116, R117) -/

/-- The line has work of a higher place than a first MOVE: a HALT, a due poll or a due retry (R116). -/
def State.higherWork (s : State) (u : Nat) : Bool :=
  (s.unitZones u).any (fun r => r.haltPending || r.pollIsDue s.clock.now.ms || r.retryIsDue)

/-- Key line u requests the budget (R116, R152). -/
def State.requests (s : State) (u : Nat) : Bool :=
  !(s.queue u).isEmpty && s.supply.state == .on && !s.hold && !s.press.freeze.filtered && (s.line u).phase == .free
    && !s.higherWork u

/-- The lines in the arbiter's order: from the line after the pointer, wrapping from line 8 to line 1 (R116). -/
def arbiterOrder (pointer : Nat) : List Nat := (List.range 8).map (fun i => (pointer + i) % 8 + 1)

/-- The line the arbiter grants next, if any (R116). -/
def State.arbiterPick (s : State) : Option Nat :=
  if s.movingCount < s.limits.budget then (arbiterOrder s.pointer).find? (fun u => s.requests u) else none

/-- A grant to line u: the queue head leaves its queue and becomes MOVING, its move start time is set, the pointer names
the line and the MOVE starts (R111, R116, R117). -/
def State.grantTo (u : Nat) (s : State) : State :=
  match s.queue u with
  | [] => s
  | z :: _ =>
    let s1 := (s.dequeue u z).modZone u z (fun r => { r with state := .moving, moveStart := some s.clock.now.ms })
    { s1 with pointer := u }.startMove u z

/-! ### The turn order (R149 to R153) -/

/-- Place 1: the zone of the next HALT in the halt pass of unit u (R150). -/
def State.haltChoice (s : State) (u : Nat) : Option Nat :=
  let waiting := ((s.unitZones u).filter ZoneRec.haltPending).map ZoneRec.zone
  match (s.line u).haltMark with
  | none => waiting.head?
  | some m =>
    match waiting.find? (fun z => m < z) with
    | some z => some z
    | none => waiting.head?

/-- Place 2, over the zones of the unit in ascending order: the lowest zone whose poll or retry is due starts its
transaction; a stale retry is evaluated without one, a retry under HOLD waits, and the next zone follows (R122, R151).
Answers whether a transaction started. A retry that stood due under FREEZE would be resolved by R129. -/
def pollsAndRetries (u : Nat) : List Nat → State → State × Bool
  | [], s => (s, false)
  | z :: rest, s =>
    match s.zone? u z with
    | none => pollsAndRetries u rest s
    | some r =>
      if r.pollIsDue s.clock.now.ms then (s.startPoll u z r.pollDue, true)
      else if r.retryIsDue then
        if r.stale then pollsAndRetries u rest (s.evaluate u z)
        else if s.press.freeze.filtered then pollsAndRetries u rest (s.requeue u z)
        else if s.hold then pollsAndRetries u rest s
        else (s.startRetry u z, true)
      else pollsAndRetries u rest s

/-- Place 4: the lowest UNKNOWN zone of unit u with empty halt reasons (R153). -/
def State.surveyChoice (s : State) (u : Nat) : Option Nat :=
  ((s.unitZones u).find? ZoneRec.surveyOffered).map ZoneRec.zone

/-- Places 3 and 4: a granted MOVE, or else a survey SENSE (R152, R153). -/
def State.moveOrSurvey (u : Nat) (s : State) : State :=
  if s.arbiterPick = some u then s.grantTo u
  else
    match s.surveyChoice u with
    | some z => s.startTransaction u z .sense none none
    | none => s

/-- A FREE controller takes its turn: the first place that yields a transaction (R149). -/
def State.turn (u : Nat) (s : State) : State :=
  if (s.line u).phase = .free then
    match s.haltChoice u with
    | some z => s.startTransaction u z .halt none none
    | none =>
      let p := pollsAndRetries u ((s.unitZones u).map ZoneRec.zone) s
      if p.2 then p.1.settle else (p.1.moveOrSurvey u).settle
  else s

/-! ### Ending a transaction (R135 to R143) -/

/-- The verdict on a sampled symbol: bad when its code is 00, its parity fails or its stop bit is high (R135). -/
def symbolGood (code : BitVec 2) (parity stop : Bool) : Bool :=
  code != 0 && evenParity (fieldBits code ++ [parity]) == false && !stop

/-- The status a good code names (R135). -/
def statusOf (code : BitVec 2) : Option Status :=
  if code = 0b01#2 then some .running
  else if code = 0b10#2 then some .stopped
  else if code = 0b11#2 then some .stalled
  else none

/-- The echo width: the fall capture minus the rise capture, modulo 65 536 (R142). -/
def Capture.width (c : Capture) : Option Nat :=
  match c.rise, c.fall with
  | some r, some f => some (ticksSince f r)
  | _, _ => none

/-- The judgement of a reply whose echo has ended (R143 cases 2, 4, 5 and 6). -/
def judgeEcho (e : CalEntry) (symbol : Option Symbol) (width : Option Nat) : Verdict :=
  match symbol, width with
  | some y, some w =>
    match statusOf y.code, plausiblePosition (echoValue e w) with
    | some st, some p => if y.good && 200 ≤ w && w ≤ 8191 then .valid st w p else .lineError
    | _, _ => .lineError
  | _, _ => .lineError

/-- The line at the end of its transaction: RESTING, the capture pair disarmed, the halt mark set to the zone of a HALT
and absent otherwise (R137 to R139, R150). -/
def Line.ended (l : Line) (t : Txn) (now : BitVec 16) : Line :=
  { phase := .resting
    txn := some { t with endedAt := some now }
    haltMark := if t.verb = .halt then some t.zone else none
    capture := { l.capture with armed := false } }

/-- The transaction of line u ends with a verdict (R139, R143 to R146). -/
def State.endTransaction (u : Nat) (t : Txn) (v : Verdict) (s : State) : State :=
  (s.setLine u ((s.line u).ended t s.clock.echo)).takeVerdict u t v

/-- The ticks since the request end of line u's transaction (R134). -/
def Txn.sinceRequest (t : Txn) (now : BitVec 16) : Option Nat := t.reqEnd.map (fun e => ticksSince now e)

end Sys2Proof.Machine
end

