-- ==== Sys2Proof/Machine/LineEvents.lean ====
section
/-! DEFINITION. The key line commands: turns, grants, and the events of a transaction. A line event that cannot occur in
the line's phase, or before its time, changes nothing (log 5, log 6). -/

namespace Sys2Proof.Machine

/-- LINE_TURN: a FREE controller with work takes its turn (R149). -/
def execLineTurn (u : Nat) (s : State) : Host.Outcome State Fault Refusal := .next (s.turn u)

/-- GRANT: the arbiter grants the next requesting line (R116, R117). -/
def execGrant (s : State) : Host.Outcome State Fault Refusal :=
  match s.arbiterPick with
  | some u => .next (s.grantTo u)
  | none => .next s

/-- POLL_DUE: a zone's poll falls due, which gives a FREE line work and so its turn (R148, R149). -/
def execPollDue (u z : Nat) (s : State) : Host.Outcome State Fault Refusal :=
  match s.zone? u z with
  | some r => if r.pollIsDue s.clock.now.ms then .next (s.turn u) else .next s
  | none => .next s

/-- REQUEST_FRAME_END: the stop bit ends, the line is released and the request end count recorded (R134). -/
def execRequestFrameEnd (u : Nat) (s : State) : Host.Outcome State Fault Refusal :=
  let l := s.line u
  match l.phase, l.txn with
  | .sending, some t =>
    if t.frameTicks ≤ ticksSince s.clock.echo t.started then
      .next (s.setLine u { l with phase := .awaitStatus, txn := some { t with reqEnd := some s.clock.echo } })
    else .next s
  | _, _ => .next s

/-- STATUS_SYMBOL_START: a rise of the line, 2 ticks ago and within the window, is still high at its sample (R135, R136;
log 19). -/
def execStatusSymbolStart (u : Nat) (s : State) : Host.Outcome State Fault Refusal :=
  let l := s.line u
  match l.phase, l.txn with
  | .awaitStatus, some t =>
    match t.sinceRequest s.clock.echo with
    | some d =>
      if Config.sampleTicks ≤ d ∧ d ≤ Config.replyTicks + Config.sampleTicks then
        .next (s.setLine u { l with phase := .receivingStatus, txn := some { t with symbolAt := some s.clock.echo } })
      else .next s
    | none => .next s
  | _, _ => .next s

/-- STATUS_SYMBOL: the symbol's stop bit time ends, its code and verdict are stored and the capture pair is armed (R135,
R141). -/
def execStatusSymbol (u : Nat) (code : BitVec 2) (parity stop : Bool) (s : State) : Host.Outcome State Fault Refusal :=
  let l := s.line u
  match l.phase, l.txn with
  | .receivingStatus, some t =>
    match t.symbolAt with
    | some b =>
      if Config.symbolRestTicks ≤ ticksSince s.clock.echo b then
        .next (s.setLine u { l with
          phase := .awaitEcho
          txn := some { t with symbol := some ⟨code, symbolGood code parity stop⟩ }
          capture := { l.capture with armed := true } })
      else .next s
    | none => .next s
  | _, _ => .next s

/-- NO_REPLY: no status symbol has started within the window (R136, R143 case 1). -/
def execNoReply (u : Nat) (s : State) : Host.Outcome State Fault Refusal :=
  let l := s.line u
  match l.phase, l.txn with
  | .awaitStatus, some t =>
    match t.sinceRequest s.clock.echo with
    | some d => if Config.replyTicks ≤ d then .next (s.endTransaction u t .noReply) else .next s
    | none => .next s
  | _, _ => .next s

/-- ECHO_RISING_EDGE: the first rising edge after the pair is armed begins the echo (R137, R141). -/
def execEchoRisingEdge (u : Nat) (s : State) : Host.Outcome State Fault Refusal :=
  let l := s.line u
  match l.phase, l.txn with
  | .awaitEcho, some t =>
    match t.sinceRequest s.clock.echo with
    | some d =>
      if d ≤ Config.limitTicks && l.capture.armed then
        .next (s.setLine u { l with phase := .echo, capture := { l.capture with rise := some s.clock.echo } })
      else .next s
    | none => .next s
  | _, _ => .next s

/-- ECHO_END: the first falling edge after the rise fills the fall capture and ends the transaction, and the reply is
judged (R137, R141 to R143). -/
def execEchoEnd (u : Nat) (s : State) : Host.Outcome State Fault Refusal :=
  let l := s.line u
  match l.phase, l.txn with
  | .echo, some t =>
    match t.sinceRequest s.clock.echo with
    | some d =>
      if d ≤ Config.limitTicks then
        let c := { l.capture with fall := some s.clock.echo }
        .next ((s.setLine u { l with capture := c }).endTransaction u t
          (judgeEcho (s.calEntry u t.zone) t.symbol c.width))
      else .next s
    | none => .next s
  | _, _ => .next s

/-- LINE_ERROR_LIMIT: a transaction not ended 12 000 ticks after its request end ends with LINE_ERROR (R138, R143 cases 2
and 3). -/
def execLineErrorLimit (u : Nat) (s : State) : Host.Outcome State Fault Refusal :=
  let l := s.line u
  match l.phase, l.txn with
  | .receivingStatus, some t | .awaitEcho, some t | .echo, some t =>
    match t.sinceRequest s.clock.echo with
    | some d => if Config.limitTicks ≤ d then .next (s.endTransaction u t .lineError) else .next s
    | none => .next s
  | _, _ => .next s

/-- REST_END: 100 ticks after the end of the transaction the controller is FREE and takes its turn (R139, R149). -/
def execRestEnd (u : Nat) (s : State) : Host.Outcome State Fault Refusal :=
  let l := s.line u
  match l.phase, l.txn with
  | .resting, some t =>
    match t.endedAt with
    | some e =>
      if Config.restTicks ≤ ticksSince s.clock.echo e then
        .next ((s.setLine u { l with phase := .free, txn := none }).turn u)
      else .next s
    | none => .next s
  | _, _ => .next s

end Sys2Proof.Machine
end

