-- ==== Sys2Proof/Machine/Trims.lean ====
section
/-! DEFINITION. Console trims, CLEAR TRIMS and SET LOOP HOLD (R76 to R80). -/

namespace Sys2Proof.Machine

/-- The place, from 0, of zone (u, z) in a run of n zones of unit u from f; absent outside the run. -/
def runPlace (u f n : Nat) (r : ZoneRec) : Option Nat :=
  if r.unit = u ∧ f ≤ r.zone ∧ r.zone < f + n then some (r.zone - f) else none

/-- A console trim brought to −100 to +100 (R76). -/
def clampTrim (x : Int) : Int := clampInt (-100) 100 x

/-- The values a run of zones is given before the clamp: one for each zone of the run (R76, R77). -/
def runRequests (s : State) (u f n : Nat) (wanted : Nat → ZoneRec → Int) : List (ZoneRec × Int) :=
  s.zones.filterMap (fun r => (runPlace u f n r).map (fun i => (r, wanted i r)))

/-- The records with the console trims of the run written (R76, R77). -/
def writeTrims (zones : List ZoneRec) (u f n : Nat) (wanted : Nat → ZoneRec → Int) : List ZoneRec :=
  zones.map (fun r =>
    match runPlace u f n r with
    | some i => { r with consoleTrim := clampTrim (wanted i r) }
    | none => r)

/-- The zones of a list whose trims differ from those of the same zones before (R78, R79, R101). -/
def trimChanged (old : List ZoneRec) (r : ZoneRec) : Bool :=
  match old.find? (fun q => q.isZone r.unit r.zone) with
  | some q => q.consoleTrim != r.consoleTrim || q.loopTrim != r.loopTrim
  | none => false

/-- Every zone whose trims `zones` changes is recomputed while a job is active, and one batch is handed: the state, the
number of zones changed and the number in the batch (R69, R71, R78). -/
def State.writeZoneTrims (s : State) (zones : List ZoneRec) : State × Nat × Nat :=
  let t := ({ s with zones := zones }).recompute (trimChanged s.zones)
  (t.1.handBatch t.2, zones.countP (trimChanged s.zones), t.2.length)

/-- SET CONSOLE TRIM and ADJUST CONSOLE TRIM over the value each zone is to take before the clamp (R76 to R78). -/
def consoleTrimBody (wanted : List Word → Nat → ZoneRec → Int) (ws : List Word) (s : State) : State × Answer :=
  let u := operand ws 0
  let f := operand ws 1
  let n := operand ws 2
  if n < 1 ∨ 36 < n then refuse s .badParam []
  else if !s.validRange u f n then refuse s .badParam []
  else
    let want := wanted ws
    let clamped := (runRequests s u f n want).countP (fun q => clampTrim q.2 != q.2)
    let t := s.writeZoneTrims (writeTrims s.zones u f n want)
    accept t.1 [uword clamped, uword t.2.1, uword t.2.2]

/-- The value of SET CONSOLE TRIM for the i-th zone of its run (R76). -/
def absoluteTrim (ws : List Word) (i : Nat) (_r : ZoneRec) : Int := signedOperand ws (3 + i)

/-- The sum of ADJUST CONSOLE TRIM for the i-th zone of its run (R77). -/
def adjustedTrim (ws : List Word) (i : Nat) (r : ZoneRec) : Int := r.consoleTrim + signedOperand ws (3 + i)

def execSetConsoleTrim (f : Frame) (s : State) : Host.Outcome State Fault Refusal :=
  runRequest .setConsoleTrim f (consoleTrimBody absoluteTrim) s

def execAdjustConsoleTrim (f : Frame) (s : State) : Host.Outcome State Fault Refusal :=
  runRequest .adjustConsoleTrim f (consoleTrimBody adjustedTrim) s

/-- The trims a selector of CLEAR TRIMS sets to 0 (R79). -/
def clearedTrims (which : Nat) (r : ZoneRec) : ZoneRec :=
  { r with
    consoleTrim := if which = 1 ∨ which = 3 then 0 else r.consoleTrim
    loopTrim := if which = 2 ∨ which = 3 then 0 else r.loopTrim }

/-- CLEAR TRIMS (R79). -/
def clearTrimsBody (ws : List Word) (s : State) : State × Answer :=
  let u := operand ws 0
  let which := operand ws 1
  if u ≠ 0 ∧ !s.unitConfigured u then refuse s .badParam [1]
  else if which < 1 ∨ 3 < which then refuse s .badParam [2]
  else
    let t := s.writeZoneTrims (s.zones.map (fun r => if u = 0 ∨ r.unit = u then clearedTrims which r else r))
    accept t.1 [uword t.2.1, uword t.2.2]

def execClearTrims (f : Frame) (s : State) : Host.Outcome State Fault Refusal := runRequest .clearTrims f clearTrimsBody s

/-- The place, from 1, of the first flag word that is neither 0 nor 1 (R80). -/
def badFlagPlace : List Word → Option Nat
  | [] => none
  | w :: rest => if 1 < w.toNat then some 1 else (badFlagPlace rest).map Nat.succ

/-- The records with the loop hold flags of the run written (R80). -/
def writeLoopHold (zones : List ZoneRec) (u f n : Nat) (ws : List Word) : List ZoneRec :=
  zones.map (fun r =>
    match runPlace u f n r with
    | some i => { r with loopHold := operand ws (3 + i) == 1 }
    | none => r)

/-- SET LOOP HOLD (R80). -/
def setLoopHoldBody (ws : List Word) (s : State) : State × Answer :=
  let u := operand ws 0
  let f := operand ws 1
  let n := operand ws 2
  if n < 1 ∨ 36 < n then refuse s .badParam []
  else if !s.validRange u f n then refuse s .badParam []
  else
    match badFlagPlace (ws.drop 3) with
    | some i => refuse s .badParam [uword i]
    | none =>
      let t := { s with zones := writeLoopHold s.zones u f n ws }
      accept t [uword ((t.unitZones u).countP (fun r => r.loopHold))]

def execSetLoopHold (f : Frame) (s : State) : Host.Outcome State Fault Refusal := runRequest .setLoopHold f setLoopHoldBody s

end Sys2Proof.Machine
end

