-- ==== Sys2Proof/Machine/LoopCorrector.lean ====
section
/-! DEFINITION. The Loop Corrector: APPLY DEVIATIONS (R92 to R102). -/

namespace Sys2Proof.Machine

/-- The NO_READING marker (R92). -/
def noReading : Int := -32768

/-- The sheet number of a deviation record (R92). -/
def recordSheet (ws : List Word) : BitVec 32 := (ws.getD 1 0) ++ (ws.getD 2 0)

/-- A deviation word that is neither the marker nor in −999 to +999 (R93 check 4). -/
def badDeviation (w : Word) : Bool := w.toInt != noReading && (w.toInt < -999 || 999 < w.toInt)

/-- The place, from 1, of the first bad deviation word (R93). -/
def badDeviationPlace : List Word → Option Nat
  | [] => none
  | w :: rest => if badDeviation w then some 1 else (badDeviationPlace rest).map Nat.succ

/-- An age of 2^31 or more: a sheet from the future (00_scope.md, sheet ages). -/
def fromFuture (age : BitVec 32) : Bool := 2 ^ 31 ≤ age.toNat

/-- The unit record of unit u in the active job, when u is a used unit (R93 check 1). -/
def State.usedUnit (s : State) (u : Nat) : Option UnitParams := s.job.bind (fun j => j.record? u)

/-- The first whole-record check that fails, in the order of R93. -/
def recordRefusal (s : State) (ws : List Word) : Option Answer :=
  let u := operand ws 0
  let f := operand ws 3
  let n := operand ws 4
  if (s.usedUnit u).isNone then some ⟨.noJob, []⟩
  else if n < 1 ∨ 36 < n then some ⟨.badParam, [1, 0]⟩
  else if f = 0 ∨ s.zonesOf u + 1 < f + n then some ⟨.badParam, [2, 0]⟩
  else
    match badDeviationPlace (ws.drop 5) with
    | some i => some ⟨.badParam, [3, uword i]⟩
    | none =>
      if !s.press.impression.filtered then some ⟨.noPrint, []⟩
      else if fromFuture (s.press.sheets - recordSheet ws) then
        some ⟨.badSheet, [upper s.press.sheets, lower s.press.sheets]⟩
      else none

/-- The STALE test: the settle age is below the settle sheets, or 2^31 or more (R98). -/
def isStale (settleSheets : Nat) (sheet : BitVec 32) (r : ZoneRec) : Bool :=
  match r.settleStamp with
  | some t => decide ((sheet - t).toNat < settleSheets) || fromFuture (sheet - t)
  | none => true

/-- The clamped step of a deviation (R99). -/
def loopStep (l : LoopParams) (d : Int) : Int := clampInt (-l.stepLimit) l.stepLimit (roundHalfAway (d * l.gain) 100)

/-- The loop trim after a step (R100). -/
def steppedTrim (l : LoopParams) (d : Int) (r : ZoneRec) : Int := clampInt (-60) 60 (r.loopTrim + loopStep l d)

/-- The outcome code of R96 and the loop trim after the record, for one zone and its deviation word. -/
def judgeZone (l : LoopParams) (p : UnitParams) (sheet : BitVec 32) (w : Word) (r : ZoneRec) : Nat × Int :=
  let d := w.toInt
  if d = noReading then (1, r.loopTrim)
  else if p.closes r.zone then (2, r.loopTrim)
  else if r.loopHold then (3, r.loopTrim)
  else if r.state ≠ .settled then (4, r.loopTrim)
  else if isStale l.settleSheets sheet r then (5, r.loopTrim)
  else if d.natAbs ≤ l.deadBand then (6, r.loopTrim)
  else if steppedTrim l d r = r.loopTrim + loopStep l d then (7, steppedTrim l d r)
  else (8, steppedTrim l d r)

/-- The judgement of each zone of the run that a record of the zone table falls in (R96). -/
def judgeRecord (s : State) (p : UnitParams) (ws : List Word) (r : ZoneRec) : Option (Nat × Int) :=
  (runPlace (operand ws 0) (operand ws 3) (operand ws 4) r).map
    (fun i => judgeZone s.loop p (recordSheet ws) (ws.getD (5 + i) 0) r)

/-- The zone records with the loop trims of a record written (R101). -/
def writeLoopTrims (s : State) (p : UnitParams) (ws : List Word) : List ZoneRec :=
  s.zones.map (fun r =>
    match judgeRecord s p ws r with
    | some q => { r with loopTrim := q.2 }
    | none => r)

/-- APPLY DEVIATIONS (R92 to R102). -/
def applyDeviationsBody (ws : List Word) (s : State) : State × Answer :=
  match recordRefusal s ws, s.usedUnit (operand ws 0) with
  | some a, _ => (s, a)
  | none, none => refuse s .noJob []
  | none, some p =>
    let t := s.writeZoneTrims (writeLoopTrims s p ws)
    accept t.1 ([uword (operand ws 4), uword t.2.1, uword t.2.2]
      ++ (s.zones.filterMap (judgeRecord s p ws)).flatMap (fun q => [uword q.1, sword q.2]))

def execApplyDeviations (f : Frame) (s : State) : Host.Outcome State Fault Refusal :=
  runRequest .applyDeviations f applyDeviationsBody s

end Sys2Proof.Machine
end

