-- ==== Sys2Proof/WellFormed.lean ====
section
/-! DEFINITION. Which commands are well formed: the events the environment can send. -/

namespace Sys2Proof

/-- The request codes of the table of R177. -/
def requestCodes : List Nat :=
  [1, 2, 3, 4, 5, 6, 7, 8, 16, 17, 18, 19, 20, 21, 24, 25, 32, 33, 34, 35, 36, 37, 38, 39, 40, 41, 42, 43, 44, 45, 46, 47]
    ++ [48, 49, 50, 51, 56]

/-- A frame that ends before its operand word count carries no operand words; it may end within the count's own word
(R175, R177). -/
def Frame.wellFormed (f : Frame) : Bool := f.declared.isSome || f.words.isEmpty

/-- A key line number, 1 to 8. -/
def lineNumber (u : Nat) : Bool := 1 ≤ u && u ≤ Config.maxUnits

/-- What a command must satisfy to name an event of the spec. -/
def Instr.wellFormed : Instr → Bool
  | .identify f | .readStatus f | .readZones f | .readJob f | .readCurve f | .setMask f | .ackNotices f
  | .portReset f | .configure f | .deviceReset f | .takeJob f | .endJob f | .setSweep f | .discardStage f
  | .defineCurve f | .deleteCurve f | .setConsoleTrim f | .adjustConsoleTrim f | .clearTrims f | .setLoopHold f
  | .disableZone f | .enableZone f | .releaseZone f | .setKeyCal f | .readEcho f | .holdKeys f | .resumeKeys f
  | .setLimits f | .supplyRetry f | .setLoopParameters f | .setTestPosting f | .testNotice f | .beginStage f
  | .stageUnit f | .stageData f | .endStage f | .applyDeviations f => f.wellFormed
  | .unknownRequest code f => !requestCodes.contains code.toNat && f.wellFormed
  | .fetch _ words => 1 ≤ words
  | .unknownFrameType _ type words => type != 5 && type != 9 && 1 ≤ words
  | .requestDiscardedBusy _ words => 1 ≤ words
  | .executionEnd _ => true
  | .lineTurn u | .noReply u | .echoEnd u | .lineErrorLimit u | .restEnd u | .requestFrameEnd u
  | .statusSymbolStart u | .echoRisingEdge u => lineNumber u
  | .statusSymbol u _ _ _ => lineNumber u
  | .pollDue u z => lineNumber u && 1 ≤ z && z ≤ Config.maxZones
  | .grant | .sheetEdge _ | .pressLevelRawChange _ _ | .pressLevelFilterExpiry _ | .supplyOkRawChange _
  | .supplyOkFilterExpiry | .warmUpLimitExpiry | .standbyTimerExpiry | .resetLineFall | .resetLineRise
  | .powerOn | .startUpIntervalEnd | .answerDelayEnd => true

end Sys2Proof
end

