-- ==== Sys2Proof/Machine/PortEvents.lean ====
section
/-! DEFINITION. The port commands that are not requests of the table: unknown requests, FETCH, frames not taken, the end
of an execution; and PORT RESET. -/

namespace Sys2Proof.Machine

/-- UNKNOWN_REQUEST: a code outside the table is refused with UNKNOWN_REQUEST and no data words (R177 step 1). -/
def execUnknownRequest (code : BitVec 8) (f : Frame) (s : State) : Host.Outcome State Fault Refusal :=
  if requestCodes.contains code.toNat then .next s
  else takeRequest f (fun t => t.beginExecution f.port code f.tag ⟨.unknownRequest, []⟩ none) s

/-- PORT RESET: at once, or at the end of the execution under way (R180). -/
def PortCtl.takeReset (c : PortCtl) : PortCtl :=
  match c.cmd with
  | .busy r _ => { c with cmd := .busy r true }
  | _ => c.reset

/-- PORT_RESET: honoured in every command state, its operand words not checked (R180). DESIGN CHOICE (log 31): so is one
whose length R175 and R177 would refuse in another request, with a partial word, without its L word, with an L that does not
match or with more than 130 words. -/
def execPortReset (f : Frame) (s : State) : Host.Outcome State Fault Refusal :=
  if !s.isRunning then .next (s.shiftOnes f.port (frameClocked f))
  else .next ((s.shiftZero f.port).modPort f.port PortCtl.takeReset)

/-- The state code of the fetch reply header. -/
def cmdCode : CmdState → Nat
  | .idle => 0 | .busy _ _ => 1 | .done _ => 2

/-- The request code and tag of the fetch reply: of the request executing or held, 0 in IDLE (R179). -/
def cmdRequest : CmdState → BitVec 8 × BitVec 4
  | .idle => (0, 0)
  | .busy r _ | .done r => (r.code, r.tag)

/-- The outcome word, the data word count and the data words of the fetch reply (R179). -/
def cmdResult : CmdState → List Word
  | .idle | .busy _ _ => [255, 0]
  | .done r => [uword (resultCode r.outcome), uword r.data.length] ++ r.data

/-- The fetch reply (R179 and the fetch reply header). -/
def PortCtl.fetchReply (c : PortCtl) : List Word :=
  let q := cmdRequest c.cmd
  [uword (cmdCode c.cmd * 16384 + (if c.dropped then 8192 else 0) + (if c.test then 4096 else 0) + q.2.toNat * 256 + q.1.toNat),
    uword (c.mask.toNat * 256 + c.notices.toNat)] ++ cmdResult c.cmd

/-- The words shifted out in a FETCH frame of n whole words: the leading 0, the reply, then 0 (R175, R179). -/
def PortCtl.fetchWords (c : PortCtl) (n : Nat) : List Word :=
  (List.range n).map (fun i => ((0 : Word) :: c.fetchReply).getD i 0)

/-- FETCH: the reply is shifted out and the dropped flag cleared (R179); a frame without a whole header word is ignored
(R175). -/
def execFetch (p : Port) (words : Nat) (s : State) : Host.Outcome State Fault Refusal :=
  if words = 0 then .next s
  else if !s.isRunning then .next (s.shiftOnes p words)
  else .next (s.modPort p (fun c => { c with out := c.fetchWords words, dropped := false }))

/-- UNKNOWN_FRAME_TYPE: the frame is not taken and the dropped flag is set (R175). -/
def execUnknownFrameType (p : Port) (type : BitVec 4) (words : Nat) (s : State) : Host.Outcome State Fault Refusal :=
  if type = 5 ∨ type = 9 ∨ words = 0 then .next s
  else if !s.isRunning then .next (s.shiftOnes p words)
  else .next ((s.shiftZero p).setDropped p)

/-- REQUEST_DISCARDED_BUSY: a REQUEST frame taken while the port is BUSY is discarded (R176). -/
def execRequestDiscardedBusy (p : Port) (words : Nat) (s : State) : Host.Outcome State Fault Refusal :=
  if words = 0 then .next s
  else if !s.isRunning then .next (s.shiftOnes p words)
  else if (s.port p).isBusy then .next ((s.shiftZero p).setDropped p)
  else .next s

/-- The port at the end of its execution: DONE with the result record, or reset when a PORT RESET is pending (R176,
R180). -/
def PortCtl.finish (c : PortCtl) : PortCtl :=
  match c.cmd with
  | .busy r false => { c with cmd := .done r }
  | .busy _ true => c.reset
  | _ => c

/-- EXECUTION_END (R176, R180): the request is executed, and what it wrote is kept by a later reset (R174). -/
def execExecutionEnd (p : Port) (s : State) : Host.Outcome State Fault Refusal :=
  .next ((s.commit p).modPort p PortCtl.finish)

end Sys2Proof.Machine
end

