-- ==== Sys2Proof/Machine/Resets.lean ====
section
/-! DEFINITION. CONFIGURE, DEVICE RESET and the events of the RESET line and of power-on. -/

namespace Sys2Proof.Machine

/-! ### CONFIGURE (R3, R4) -/

/-- The zone records of a configuration: units 1 to N, zones 1 to Nz(u), in ascending order (R4). -/
def createdZones (nz : List Nat) : List ZoneRec :=
  nz.zipIdx.flatMap (fun q => (List.range q.1).map (fun z => ZoneRec.created (q.2 + 1) (z + 1)))

/-- The part as an accepted CONFIGURE leaves it: the records in UNKNOWN, empty queues, no halt mark (R4, R150). -/
def State.configured (s : State) (nz : List Nat) : State :=
  { s with
    device := .configured
    nz := nz
    zones := createdZones nz
    queues := Vector.replicate 8 []
    lines := s.lines.map (fun l => { l with haltMark := none }) }

/-- CONFIGURE (R3, R4). -/
def configureBody (ws : List Word) (s : State) : State × Answer :=
  let n := operand ws 0
  let nz := (ws.drop 1).map BitVec.toNat
  if s.device ≠ .unconfigured then refuse s .wrongState []
  else if n < 1 ∨ Config.maxUnits < n then refuse s .badParam []
  else if nz.any (fun k => k < Config.minZones || Config.maxZones < k) then refuse s .badParam []
  else accept (s.configured nz) [uword nz.sum]

def execConfigure (f : Frame) (s : State) : Host.Outcome State Fault Refusal := runRequest .configure f configureBody s

/-! ### The resets (R172 to R174) -/

/-- DEVICE RESET: the part is put in reset and the reset ends at the completion of the execution; no result record is
left, and a request that another port has not executed to its end is without effect (R174; logs 7, 8). -/
def execDeviceReset (f : Frame) (s : State) : Host.Outcome State Fault Refusal :=
  takeRequest f (fun t =>
    match frameRefusal .deviceReset f t.device with
    | some a => t.beginExecution f.port (reqCode .deviceReset) f.tag a none
    | none => t.toHeld.endReset) s

def State.setResetPin (s : State) (level : Bool) : State := { s with press := { s.press with resetPin := level } }

/-- RESET_LINE_FALL: the part is in reset at once, whatever the phase other than START-UP (R172, R173). -/
def execResetLineFall (s : State) : Host.Outcome State Fault Refusal :=
  if !s.press.resetPin then .next s
  else if s.press.phase = .startUp then .next (s.setResetPin false)
  else .next (s.setResetPin false).toHeld

/-- RESET_LINE_RISE: the reset ends (R172); within the start-up interval the rise has no effect of its own (R173). -/
def execResetLineRise (s : State) : Host.Outcome State Fault Refusal :=
  if s.press.resetPin then .next s
  else if s.press.phase = .held then .next (s.setResetPin true).endReset
  else .next (s.setResetPin true)

/-- POWER_ON: START-UP, both tables cleared, every block reset (R173). -/
def execPowerOn (s : State) : Host.Outcome State Fault Refusal := .next s.toPowerOn

/-- START_UP_INTERVAL_END: after 50 ms the reset ends when RESET is high, and the phase becomes HELD when it is low
(R173). -/
def execStartUpIntervalEnd (s : State) : Host.Outcome State Fault Refusal :=
  if s.press.phase = .startUp ∧ Config.startUpUs ≤ s.clock.phaseUs then
    if s.press.resetPin then .next s.endReset
    else .next { s with press := { s.press with phase := .held }, clock := { s.clock with phaseUs := 0 } }
  else .next s

/-- ANSWER_DELAY_END: after 1 ms the phase becomes RUNNING, and a filter whose raw line differs begins a pending change
(R158, R169, R172). -/
def execAnswerDelayEnd (s : State) : Host.Outcome State Fault Refusal :=
  if s.press.phase = .answerDelay ∧ Config.answerDelayUs ≤ s.clock.phaseUs then
    .next { s with
      clock := { s.clock with phaseUs := 0 }
      supply := { s.supply with ok := s.supply.ok.resume s.clock.now }
      press := { s.press with
        impression := s.press.impression.resume s.clock.now
        freeze := s.press.freeze.resume s.clock.now
        phase := .running } }
  else .next s

end Sys2Proof.Machine
end

