-- ==== Sys2Proof/Machine/Service.lean ====
section
/-! DEFINITION. Zone service and calibration: DISABLE, ENABLE and RELEASE ZONE, SET KEY CAL, READ ECHO (R81 to R86). -/

namespace Sys2Proof.Machine

/-- A request that names one zone: an invalid pair is refused with BAD_PARAM (R5, R75). -/
def zoneRequest (body : Nat → Nat → ZoneRec → State → State × Answer) (ws : List Word) (s : State) : State × Answer :=
  let u := operand ws 0
  let z := operand ws 1
  if !s.validZone u z then refuse s .badParam []
  else
    match s.zone? u z with
    | none => refuse s .badParam []
    | some r => body u z r s

/-- The key state code of zone (u, z), for a result. -/
def State.codeAt (s : State) (u z : Nat) : Word :=
  uword ((s.zone? u z).elim 0 (fun r => keyStateCode r.state))

/-! ### DISABLE ZONE (R81) -/

/-- The zone becomes DISABLED at once; from BLOCKED or FAULTED its failure count becomes 0 (R81; log 16). -/
def State.disableAtOnce (u z : Nat) (s : State) : State :=
  s.enter u z .disabled none (fun q => { q with retries := 0 })

/-- DISABLE joins the halt reasons; a poll gives way to the HALT (R81, R123, R148). -/
def State.addDisable (u z : Nat) (s : State) : State :=
  s.modZone u z (fun r => { r with halts := { r.halts with disable := true }, pollDue := none })

/-- The effect of DISABLE ZONE by the zone's key state (R81). -/
def State.disableZone (u z : Nat) (r : ZoneRec) (s : State) : State :=
  match r.state with
  | .moving => s.addDisable u z
  | .unknown => if r.halts.any then s.addDisable u z else (s.disableAtOnce u z).settle
  | .disabled => s
  | .blocked | .faulted => ((s.modZone u z (fun r => { r with failures := 0 })).disableAtOnce u z).settle
  | .idle | .settled | .queued | .missed => (s.disableAtOnce u z).settle

/-- DISABLE ZONE (R81). -/
def disableZoneBody (u z : Nat) (r : ZoneRec) (s : State) : State × Answer :=
  let t := s.disableZone u z r
  accept t [t.codeAt u z, bword ((t.zone? u z).elim false (fun q => q.halts.disable))]

def execDisableZone (f : Frame) (s : State) : Host.Outcome State Fault Refusal :=
  runRequest .disableZone f (zoneRequest disableZoneBody) s

/-! ### ENABLE ZONE and RELEASE ZONE (R83, R84) -/

/-- The zone becomes UNKNOWN with its failure count at 0 (R83 to R85). -/
def State.makeUnknown (u z : Nat) (g : ZoneRec → ZoneRec) (s : State) : State :=
  s.enter u z .unknown none (fun r => g { r with failures := 0 })

/-- ENABLE ZONE (R83). -/
def enableZoneBody (u z : Nat) (r : ZoneRec) (s : State) : State × Answer :=
  match r.state with
  | .disabled =>
    let t := (s.makeUnknown u z id).settle
    accept t [t.codeAt u z]
  | .unknown | .idle | .settled | .queued | .moving | .missed | .blocked | .faulted =>
    refuse s .wrongState [uword (keyStateCode r.state)]

def execEnableZone (f : Frame) (s : State) : Host.Outcome State Fault Refusal :=
  runRequest .enableZone f (zoneRequest enableZoneBody) s

/-- RELEASE ZONE (R84). -/
def releaseZoneBody (u z : Nat) (r : ZoneRec) (s : State) : State × Answer :=
  match r.state with
  | .blocked | .faulted =>
    let t := (s.makeUnknown u z id).settle
    accept t [t.codeAt u z]
  | .missed =>
    let t := (s.evaluate u z).settle
    accept t [t.codeAt u z]
  | .unknown | .idle | .settled | .queued | .moving | .disabled => refuse s .wrongState [uword (keyStateCode r.state)]

def execReleaseZone (f : Frame) (s : State) : Host.Outcome State Fault Refusal :=
  runRequest .releaseZone f (zoneRequest releaseZoneBody) s

/-! ### SET KEY CAL and READ ECHO (R14, R85, R86) -/

/-- The largest target ticks of an entry (R14). -/
def largestTicks (width0 gain : Nat) : Nat := width0 + roundHalfUp 2048000 gain

/-- A zone record that keeps its key state at SET KEY CAL: UNKNOWN and DISABLED (R85). -/
def KeyState.keepsAtCal : KeyState → Bool
  | .unknown | .disabled => true
  | .idle | .settled | .queued | .moving | .missed | .blocked | .faulted => false

/-- The part after an entry is stored for a zone record in key state k (R85). -/
def State.calStored (s : State) (u z : Nat) (k : Option KeyState) : State × Bool :=
  match k with
  | none => (s, false)
  | some k =>
    if k.keepsAtCal then (s, false) else ((s.makeUnknown u z (fun r => { r with retries := 0 })).settle, true)

/-- SET KEY CAL (R85). -/
def setKeyCalBody (ws : List Word) (s : State) : State × Answer :=
  let u := operand ws 0
  let z := operand ws 1
  let width0 := operand ws 2
  let gain := operand ws 3
  let k := (s.zone? u z).map (fun r => r.state)
  if u < 1 ∨ 8 < u ∨ z < 1 ∨ 36 < z then refuse s .badParam [1]
  else if width0 < 200 ∨ 4000 < width0 then refuse s .badParam [2]
  else if gain < 100 ∨ 1600 < gain then refuse s .badParam [3]
  else if 8191 < largestTicks width0 gain then refuse s .badParam [4, uword (largestTicks width0 gain)]
  else if k = some .queued then refuse s .zoneBusy [uword (keyStateCode .queued)]
  else if k = some .moving then refuse s .zoneBusy [uword (keyStateCode .moving)]
  else
    let t := (s.setCalEntry u z ⟨width0, gain⟩).calStored u z k
    accept t.1 [bword t.2, uword (s.calEntry u z).zero, uword (s.calEntry u z).gain]

def execSetKeyCal (f : Frame) (s : State) : Host.Outcome State Fault Refusal := runRequest .setKeyCal f setKeyCalBody s

/-- The age of a zone's echo (R7, R86); 0 when absent. -/
def State.echoAge (s : State) (r : ZoneRec) : BitVec 32 :=
  match r.echoTime with
  | some t => s.clock.now.ms - t
  | none => 0

/-- READ ECHO (R86). -/
def readEchoBody (u z : Nat) (r : ZoneRec) (s : State) : State × Answer :=
  accept s
    [uword (keyStateCode r.state), bword r.echoWidth.isSome, uword (r.echoWidth.getD 0), upper (s.echoAge r),
      lower (s.echoAge r), uword (r.measured.getD 0), uword r.failures, uword (s.calEntry u z).zero,
      uword (s.calEntry u z).gain]

def execReadEcho (f : Frame) (s : State) : Host.Outcome State Fault Refusal :=
  runRequest .readEcho f (zoneRequest readEchoBody) s

end Sys2Proof.Machine
end

