-- ==== Sys2Proof/Machine/Signals.lean ====
section
/-! DEFINITION. The press drive and supply events (R158 to R161, R167 to R171). -/

namespace Sys2Proof.Machine

/-! ### SHEET (R167) -/

/-- A rising edge is counted when no edge was counted yet or 5 ms have passed since the last counted one (R167). -/
def State.sheetCounts (s : State) : Bool :=
  match s.press.lastEdge with
  | none => true
  | some t => Config.sheetSpacingUs ≤ elapsedUs s.clock.now t

/-- A rising edge of SHEET (R167). -/
def State.risingSheet (s : State) : State :=
  if s.sheetCounts then
    { s with press := { s.press with sheets := s.press.sheets + 1, lastEdge := some s.clock.now } }
  else s

/-- SHEET_EDGE: a change of SHEET to `level`. A falling edge is not judged, and the line is not watched outside RUNNING
(R167; log 23). -/
def execSheetEdge (level : Bool) (s : State) : Host.Outcome State Fault Refusal :=
  if s.press.sheetPin = level then .next s
  else
    let t := { s with press := { s.press with sheetPin := level } }
    if level && s.isRunning then .next t.risingSheet else .next t

/-! ### IMPRESSION and FREEZE (R169 to R171) -/

def Press.level (p : Press) : PressLevel → Level
  | .impression => p.impression
  | .freeze => p.freeze

def State.setLevel (s : State) (w : PressLevel) (l : Level) : State :=
  match w with
  | .impression => { s with press := { s.press with impression := l } }
  | .freeze => { s with press := { s.press with freeze := l } }

/-- PRESS_LEVEL_RAW_CHANGE (R169). -/
def execPressLevelRawChange (w : PressLevel) (level : Bool) (s : State) : Host.Outcome State Fault Refusal :=
  let l := s.press.level w
  if s.isRunning then .next (s.setLevel w (l.rawChange level s.clock.now)) else .next (s.setLevel w (l.pinChange level))

/-- The effects of a change of a filtered level: FREEZE posts FREEZE_CHANGE and at its assertion halts the keys;
IMPRESSION has none (R129, R170, R171). -/
def State.levelTaken (s : State) (w : PressLevel) : State :=
  match w with
  | .impression => s
  | .freeze => if s.press.freeze.filtered then s.freezeAsserted.post .freezeChange else s.post .freezeChange

/-- PRESS_LEVEL_FILTER_EXPIRY: a pending change that has stood 1 ms becomes the filtered level (R169). -/
def execPressLevelFilterExpiry (w : PressLevel) (s : State) : Host.Outcome State Fault Refusal :=
  let l := s.press.level w
  if s.isRunning && l.due s.clock.now then .next ((s.setLevel w l.take).levelTaken w) else .next s

/-! ### SUPPLY-OK and the supply timers (R157 to R161) -/

def State.setSupplyOk (s : State) (l : Level) : State := { s with supply := { s.supply with ok := l } }

/-- SUPPLY_OK_RAW_CHANGE (R158). -/
def execSupplyOkRawChange (level : Bool) (s : State) : Host.Outcome State Fault Refusal :=
  if s.isRunning then .next (s.setSupplyOk (s.supply.ok.rawChange level s.clock.now))
  else .next (s.setSupplyOk (s.supply.ok.pinChange level))

/-- The filtered SUPPLY-OK level has changed: a rise takes WARMING to ON, a fall takes ON to FAILED, and nothing else is
affected (R158, R159, R161). -/
def State.supplyOkTaken (s : State) : State :=
  match s.supply.state, s.supply.ok.filtered with
  | .warming, true => ({ s with supply := { s.supply with state := .on, warmUp := none } }).settle
  | .on, false => s.supplyLoss
  | .off, _ | .failed, _ | .warming, false | .on, true => s

/-- SUPPLY_OK_FILTER_EXPIRY (R158). -/
def execSupplyOkFilterExpiry (s : State) : Host.Outcome State Fault Refusal :=
  if s.isRunning && s.supply.ok.due s.clock.now then .next (s.setSupplyOk s.supply.ok.take).supplyOkTaken else .next s

/-- The warm-up limit has expired (R159). -/
def State.warmUpExpired (s : State) : Bool :=
  s.supply.state == .warming &&
    (match s.supply.warmUp with
      | some t => decide (Config.warmUpMs ≤ elapsedMs s.clock.now.ms t)
      | none => false)

/-- WARM_UP_LIMIT_EXPIRY: the supply becomes FAILED and SUPPLY_ALERT is posted (R159). -/
def execWarmUpLimitExpiry (s : State) : Host.Outcome State Fault Refusal :=
  if s.warmUpExpired then
    .next (({ s with supply := { s.supply with state := .failed, warmUp := none } }).post .supplyAlert)
  else .next s

/-- The standby timer has expired; it runs only while the standby condition holds (R160). -/
def State.standbyExpired (s : State) : Bool :=
  s.standbyCondition &&
    (match s.supply.standby with
      | some t => decide (t.ms ≤ elapsedMs s.clock.now.ms t.start)
      | none => false)

/-- STANDBY_TIMER_EXPIRY: the supply goes OFF, and no notice is posted (R160). -/
def execStandbyTimerExpiry (s : State) : Host.Outcome State Fault Refusal :=
  if s.standbyExpired then .next { s with supply := { s.supply with state := .off, standby := none } } else .next s

end Sys2Proof.Machine
end

