-- ==== Sys2Proof/Machine/Staging.lean ====
section
/-! DEFINITION. The staged slot's requests: BEGIN STAGE, STAGE UNIT, STAGE DATA, END STAGE, DISCARD STAGE (R33 to R42). -/

namespace Sys2Proof.Machine

/-- The first check of BEGIN STAGE after the slot's that fails (R35 checks 2 to 5). -/
def beginStageCheck (s : State) (jobNo m : Nat) (units : List Nat) : Option Nat :=
  if jobNo = 0 then some 2
  else if m < 1 ∨ 8 < m then some 3
  else if units.any (fun u => !s.unitConfigured u) then some 4
  else if !decide units.Nodup then some 5
  else none

/-- A slot opened afresh (R36). -/
def openedStage (s : State) (jobNo : Nat) (units : List Nat) : Stage :=
  { jobNo := jobNo, units := units, expected := (units.map s.zonesOf).sum, stream := [], clamped := 0, records := [] }

/-- BEGIN STAGE (R35, R36). -/
def beginStageBody (ws : List Word) (s : State) : State × Answer :=
  let units := (ws.drop 2).map BitVec.toNat
  match s.slot with
  | .opened c => refuse s .stageOpen [uword c.jobNo]
  | .empty | .complete _ | .failed _ _ =>
    match beginStageCheck s (operand ws 0) (operand ws 1) units with
    | some e => refuse s .badParam [uword e]
    | none =>
      let c := openedStage s (operand ws 0) units
      accept { s with slot := .opened c } [uword c.expected, bword (s.slot != .empty)]

def execBeginStage (f : Frame) (s : State) : Host.Outcome State Fault Refusal := runRequest .beginStage f beginStageBody s

/-- The operand number of the first operand of STAGE UNIT that fails (R37). -/
def stageUnitCheck (s : State) (c : Stage) (p : UnitParams) : Option Nat :=
  if !c.units.contains p.unit then some 1
  else if 15 < p.curve then some 2
  else if p.sweep < 10 ∨ 100 < p.sweep then some 3
  else if 16 < p.s1 then some 4
  else if 8 < p.s2 then some 5
  else if p.first < 1 ∨ s.zonesOf p.unit < p.first then some 6
  else if p.last < p.first ∨ s.zonesOf p.unit < p.last then some 7
  else none

/-- The unit records with a unit's record replaced, or appended when it was absent (R37). -/
def putRecord (l : List UnitParams) (p : UnitParams) : List UnitParams :=
  if l.any (fun q => q.unit == p.unit) then l.map (fun q => if q.unit == p.unit then p else q) else l ++ [p]

/-- The seven operands of STAGE UNIT as a unit record (R37). -/
def unitParamsOf (ws : List Word) : UnitParams :=
  { unit := operand ws 0, curve := operand ws 1, sweep := operand ws 2, s1 := operand ws 3, s2 := operand ws 4,
    first := operand ws 5, last := operand ws 6 }

/-- STAGE UNIT (R37). -/
def stageUnitBody (ws : List Word) (s : State) : State × Answer :=
  let p := unitParamsOf ws
  match s.slot with
  | .opened c =>
    match stageUnitCheck s c p with
    | some e => refuse s .badParam [uword e]
    | none =>
      accept { s with slot := .opened { c with records := putRecord c.records p } }
        [bword (c.records.any (fun q => q.unit == p.unit))]
  | .empty | .complete _ | .failed _ _ => refuse s .noStage []

def execStageUnit (f : Frame) (s : State) : Host.Outcome State Fault Refusal := runRequest .stageUnit f stageUnitBody s

/-- The slot's content with coverage values appended, each above 1000 stored as 1000 and counted as clamped (R39). -/
def Stage.append (c : Stage) (vs : List Nat) : Stage :=
  { c with stream := c.stream ++ vs.map (fun v => min v 1000), clamped := c.clamped + vs.countP (fun v => 1000 < v) }

/-- STAGE DATA (R39, R40). -/
def stageDataBody (ws : List Word) (s : State) : State × Answer :=
  let n := operand ws 0
  let vs := (ws.drop 1).map BitVec.toNat
  match s.slot with
  | .opened c =>
    let left := c.expected - c.stream.length
    if n < 1 ∨ 64 < n then refuse s .badParam []
    else if n ≤ left then
      accept { s with slot := .opened (c.append vs) }
        [uword (c.append vs).stream.length, uword (vs.countP (fun v => 1000 < v)), uword (left - n)]
    else
      let kept := vs.take left
      (({ s with slot := .failed (c.append kept) .oversize }).post .stageFailed,
        ⟨.badParam, [uword left, uword (kept.countP (fun v => 1000 < v)), uword (n - left)]⟩)
  | .empty | .complete _ | .failed _ _ => refuse s .noStage []

def execStageData (f : Frame) (s : State) : Host.Outcome State Fault Refusal := runRequest .stageData f stageDataBody s

/-- The listed units without a unit record (R41). -/
def Stage.missing (c : Stage) : Nat := c.units.countP (fun u => !c.records.any (fun p => p.unit == u))

/-- The slot END STAGE leaves (R41). -/
def Stage.closed (c : Stage) : Slot :=
  if c.stream.length < c.expected then .failed c .short
  else if c.missing ≠ 0 then .failed c .incomplete
  else .complete c

/-- The notice of a closed slot (R34). -/
def closeNotice : Slot → Notice
  | .complete _ => .stageDone
  | .empty | .opened _ | .failed _ _ => .stageFailed

/-- The failure cause word of END STAGE (R41). -/
def closeCause : Slot → Nat
  | .failed _ cause => stageCauseCode cause
  | .empty | .opened _ | .complete _ => 0

/-- END STAGE (R41). -/
def endStageBody (_ws : List Word) (s : State) : State × Answer :=
  match s.slot with
  | .opened c =>
    accept (({ s with slot := c.closed }).post (closeNotice c.closed))
      [uword (slotCode c.closed), uword (closeCause c.closed), uword c.stream.length, uword c.missing]
  | .empty | .complete _ | .failed _ _ => refuse s .noStage []

def execEndStage (f : Frame) (s : State) : Host.Outcome State Fault Refusal := runRequest .endStage f endStageBody s

/-- The job number the slot holds, 0 in EMPTY (R42). -/
def Slot.jobNo : Slot → Nat
  | .empty => 0
  | .opened c | .complete c | .failed c _ => c.jobNo

/-- DISCARD STAGE (R42). -/
def discardStageBody (_ws : List Word) (s : State) : State × Answer :=
  accept { s with slot := .empty } [uword (slotCode s.slot), uword s.slot.jobNo]

def execDiscardStage (f : Frame) (s : State) : Host.Outcome State Fault Refusal :=
  runRequest .discardStage f discardStageBody s

end Sys2Proof.Machine
end

