-- ==== Sys2Proof/Machine/Dispatch.lean ====
section
/-! DEFINITION. One arm for each command. -/

namespace Sys2Proof.Machine

def exec (i : Instr) (s : State) : Host.Outcome State Fault Refusal :=
  match i with
  | .identify f => Sys2Proof.Machine.execIdentify f s
  | .readStatus f => Sys2Proof.Machine.execReadStatus f s
  | .readZones f => Sys2Proof.Machine.execReadZones f s
  | .readJob f => Sys2Proof.Machine.execReadJob f s
  | .readCurve f => Sys2Proof.Machine.execReadCurve f s
  | .setMask f => Sys2Proof.Machine.execSetMask f s
  | .ackNotices f => Sys2Proof.Machine.execAckNotices f s
  | .portReset f => Sys2Proof.Machine.execPortReset f s
  | .configure f => Sys2Proof.Machine.execConfigure f s
  | .deviceReset f => Sys2Proof.Machine.execDeviceReset f s
  | .takeJob f => Sys2Proof.Machine.execTakeJob f s
  | .endJob f => Sys2Proof.Machine.execEndJob f s
  | .setSweep f => Sys2Proof.Machine.execSetSweep f s
  | .discardStage f => Sys2Proof.Machine.execDiscardStage f s
  | .defineCurve f => Sys2Proof.Machine.execDefineCurve f s
  | .deleteCurve f => Sys2Proof.Machine.execDeleteCurve f s
  | .setConsoleTrim f => Sys2Proof.Machine.execSetConsoleTrim f s
  | .adjustConsoleTrim f => Sys2Proof.Machine.execAdjustConsoleTrim f s
  | .clearTrims f => Sys2Proof.Machine.execClearTrims f s
  | .setLoopHold f => Sys2Proof.Machine.execSetLoopHold f s
  | .disableZone f => Sys2Proof.Machine.execDisableZone f s
  | .enableZone f => Sys2Proof.Machine.execEnableZone f s
  | .releaseZone f => Sys2Proof.Machine.execReleaseZone f s
  | .setKeyCal f => Sys2Proof.Machine.execSetKeyCal f s
  | .readEcho f => Sys2Proof.Machine.execReadEcho f s
  | .holdKeys f => Sys2Proof.Machine.execHoldKeys f s
  | .resumeKeys f => Sys2Proof.Machine.execResumeKeys f s
  | .setLimits f => Sys2Proof.Machine.execSetLimits f s
  | .supplyRetry f => Sys2Proof.Machine.execSupplyRetry f s
  | .setLoopParameters f => Sys2Proof.Machine.execSetLoopParameters f s
  | .setTestPosting f => Sys2Proof.Machine.execSetTestPosting f s
  | .testNotice f => Sys2Proof.Machine.execTestNotice f s
  | .beginStage f => Sys2Proof.Machine.execBeginStage f s
  | .stageUnit f => Sys2Proof.Machine.execStageUnit f s
  | .stageData f => Sys2Proof.Machine.execStageData f s
  | .endStage f => Sys2Proof.Machine.execEndStage f s
  | .applyDeviations f => Sys2Proof.Machine.execApplyDeviations f s
  | .unknownRequest code f => Sys2Proof.Machine.execUnknownRequest code f s
  | .fetch p words => Sys2Proof.Machine.execFetch p words s
  | .unknownFrameType p type words => Sys2Proof.Machine.execUnknownFrameType p type words s
  | .requestDiscardedBusy p words => Sys2Proof.Machine.execRequestDiscardedBusy p words s
  | .executionEnd p => Sys2Proof.Machine.execExecutionEnd p s
  | .lineTurn u => Sys2Proof.Machine.execLineTurn u s
  | .grant => Sys2Proof.Machine.execGrant s
  | .pollDue u z => Sys2Proof.Machine.execPollDue u z s
  | .statusSymbol u code parity stop => Sys2Proof.Machine.execStatusSymbol u code parity stop s
  | .noReply u => Sys2Proof.Machine.execNoReply u s
  | .echoEnd u => Sys2Proof.Machine.execEchoEnd u s
  | .lineErrorLimit u => Sys2Proof.Machine.execLineErrorLimit u s
  | .restEnd u => Sys2Proof.Machine.execRestEnd u s
  | .sheetEdge level => Sys2Proof.Machine.execSheetEdge level s
  | .pressLevelRawChange which level => Sys2Proof.Machine.execPressLevelRawChange which level s
  | .pressLevelFilterExpiry which => Sys2Proof.Machine.execPressLevelFilterExpiry which s
  | .supplyOkRawChange level => Sys2Proof.Machine.execSupplyOkRawChange level s
  | .supplyOkFilterExpiry => Sys2Proof.Machine.execSupplyOkFilterExpiry s
  | .warmUpLimitExpiry => Sys2Proof.Machine.execWarmUpLimitExpiry s
  | .standbyTimerExpiry => Sys2Proof.Machine.execStandbyTimerExpiry s
  | .resetLineFall => Sys2Proof.Machine.execResetLineFall s
  | .resetLineRise => Sys2Proof.Machine.execResetLineRise s
  | .powerOn => Sys2Proof.Machine.execPowerOn s
  | .startUpIntervalEnd => Sys2Proof.Machine.execStartUpIntervalEnd s
  | .answerDelayEnd => Sys2Proof.Machine.execAnswerDelayEnd s
  | .requestFrameEnd u => Sys2Proof.Machine.execRequestFrameEnd u s
  | .statusSymbolStart u => Sys2Proof.Machine.execStatusSymbolStart u s
  | .echoRisingEdge u => Sys2Proof.Machine.execEchoRisingEdge u s

end Sys2Proof.Machine
end

