-- ==== Sys2Proof/Machine/Step.lean ====
section
/-! DEFINITION. The step of the block: the command at the front of the queue, or one microsecond of the clock. -/

namespace Sys2Proof.Machine

/-- One step: the command at the front of the queue is executed with the queue's rest; on an empty queue one microsecond
passes (log 4). -/
def step (s : State) : Host.Outcome State Fault Refusal :=
  match s.pending with
  | [] => .next s.tick
  | c :: rest => exec c { s with pending := rest }

/-- The state with the command that a word spells at the front of its queue; unchanged where the word spells none. -/
def State.withFetchWord (s : State) (nbits w : Nat) : State :=
  match Sys2Proof.decodeTableWord nbits w with
  | some c => { s with pending := c :: s.pending }
  | none => s

/-- The state after a master has clocked a frame's bits at port p: the command of the frame's header joins the queue, and a
frame without a whole header word is ignored (R175). -/
def State.withFrame (s : State) (p : Port) (bits : List Bool) : State :=
  { s with pending := s.pending ++ (Sys2Proof.frameCommand p bits).toList }

end Sys2Proof.Machine
end

