-- ==== Sys2Proof/Safety.lean ====
section
/-! DEFINITION. The laws of the device the spec states, as predicates on a state: what a safe state is. -/

namespace Sys2Proof.Safety

open Sys2Proof.Machine

/-! ### Tables -/

/-- A breakpoint list that passes every check of R22 (R19). -/
abbrev CurveOk (c : Curve) : Prop :=
  10 ≤ c.fref ∧ c.fref ≤ 100 ∧ 2 ≤ c.points.length ∧ c.points.length ≤ 12 ∧
    c.points.head?.map Breakpoint.x = some 0 ∧ c.points.getLast?.map Breakpoint.x = some 1000 ∧
    c.points.Pairwise (fun a b => a.x < b.x ∧ a.y ≤ b.y) ∧ ∀ q ∈ c.points, q.y ≤ 500

/-- The curve a write puts into its slot. -/
def writtenCurve : TableWrite → Option Curve
  | .curve _ c => c
  | .cal _ _ _ => none

/-- The calibration entry a write puts into the table. -/
def writtenCal : TableWrite → Option CalEntry
  | .curve _ _ => none
  | .cal _ _ e => some e

/-- What the requests under execution have written (log 7). -/
def openWrites (s : State) : List TableWrite := s.kept.underWay.map Prod.snd

/-- Every defined slot holds a well-formed breakpoint list (R18, R19), as it stands, as a reset would keep it, and as an
execution under way has written it. -/
abbrev CurvesOk (s : State) : Prop :=
  (∀ o ∈ s.curves.toList, ∀ c ∈ o, CurveOk c) ∧ (∀ o ∈ s.kept.curves.toList, ∀ c ∈ o, CurveOk c) ∧
    ∀ w ∈ openWrites s, ∀ c ∈ writtenCurve w, CurveOk c

/-- A calibration entry in its ranges that satisfies the range test (R14). -/
abbrev CalOk (e : CalEntry) : Prop :=
  200 ≤ e.zero ∧ e.zero ≤ 4000 ∧ 100 ≤ e.gain ∧ e.gain ≤ 1600 ∧ e.zero + roundHalfUp (500 * 4096) e.gain ≤ 8191

/-- Every entry of the Key Calibration Table satisfies R14, as it stands, as a reset would keep it, and as an execution under
way has written it. -/
abbrev CalibrationOk (s : State) : Prop :=
  (∀ row ∈ s.cal.toList, ∀ e ∈ row.toList, CalOk e) ∧ (∀ row ∈ s.kept.cal.toList, ∀ e ∈ row.toList, CalOk e) ∧
    ∀ w ∈ openWrites s, ∀ e ∈ writtenCal w, CalOk e

/-- The kept tables with what the requests under way have written, in the order of their execution. -/
def replayed (k : Kept) : Kept := k.underWay.foldl (fun k e => k.store e.2) k

/-- The two tables hold what a reset would keep of them, changed by what the requests still being executed have written, in
the order of their execution; each of those is a BUSY port's, one for a port (R172, R174, R178; log 7). -/
abbrev KeptOk (s : State) : Prop :=
  (replayed s.kept).cal = s.cal ∧ (replayed s.kept).curves = s.curves ∧ (s.kept.underWay.map Prod.fst).Nodup ∧
    ∀ e ∈ s.kept.underWay, (s.port e.1).isBusy = true

/-- The limits lie in the ranges of R88 and the loop parameters in those of R90. -/
abbrev LimitsOk (s : State) : Prop :=
  limitsCheck s.limits = none ∧ loopParamsCheck s.loop = none

/-- Console trims lie in −100 to +100 and loop trims in −60 to +60 (R6, R76, R100). -/
abbrev TrimsOk (s : State) : Prop :=
  ∀ r ∈ s.zones, -100 ≤ r.consoleTrim ∧ r.consoleTrim ≤ 100 ∧ -60 ≤ r.loopTrim ∧ r.loopTrim ≤ 60

/-- Every curve referenced by the active job is defined in the Curve Table (R26). -/
abbrev ReferencedDefined (s : State) : Prop := ∀ j ∈ s.job, ∀ p ∈ j.records, (s.curve? p.curve).isSome

/-! ### Device state -/

/-- Zone records, configured units and the active job stand as the device state says (01, device states; R1, R44). -/
abbrev DeviceOk (s : State) : Prop :=
  (s.device = .unconfigured ↔ s.nz = []) ∧ (s.zones = [] ↔ s.nz = []) ∧ (s.device = .jobActive ↔ s.job.isSome)

/-- A target is present in every record while there is an active job, absent while there is none, and at most 500 (R6,
R9). -/
abbrev TargetsOk (s : State) : Prop :=
  ∀ r ∈ s.zones, r.target.isSome = s.job.isSome ∧ r.target.getD 0 ≤ 500

/-- The fields of the configuration and of the zone records that no other law bounds lie in their ranges: Nz(u) in 12 to 36
(R3), coverage, effective coverage, base opening, measured position and last echo width as in the table of R6. -/
abbrev RangesOk (s : State) : Prop :=
  (∀ k ∈ s.nz, 12 ≤ k ∧ k ≤ 36) ∧
    ∀ r ∈ s.zones, r.coverage.getD 0 ≤ 1000 ∧ r.effective.getD 0 ≤ 1000 ∧ r.base.getD 0 ≤ 5000 ∧
      r.measured.getD 0 ≤ 500 ∧ ∀ w ∈ r.echoWidth, 200 ≤ w ∧ w ≤ 8191

/-! ### The staged slot and the active job -/

/-- A unit record in the ranges of R33. -/
abbrev UnitParamsOk (p : UnitParams) : Prop :=
  p.curve ≤ 15 ∧ 10 ≤ p.sweep ∧ p.sweep ≤ 100 ∧ p.s1 ≤ 16 ∧ p.s2 ≤ 8 ∧ 1 ≤ p.first ∧ p.first ≤ p.last

/-- Unit records, at most one for each listed unit (R33, R44). -/
abbrev UnitRecordsOk (units : List Nat) (records : List UnitParams) : Prop :=
  units.Nodup ∧ (records.map UnitParams.unit).Nodup ∧ ∀ p ∈ records, p.unit ∈ units ∧ UnitParamsOk p

/-- The unit list of a job: 1 to 8 configured units, each once (R33, R35). -/
abbrev UnitListOk (s : State) (units : List Nat) : Prop :=
  1 ≤ units.length ∧ units.length ≤ 8 ∧ units.Nodup ∧ ∀ u ∈ units, 1 ≤ u ∧ u ≤ s.nz.length

/-- The unit records' sheet widths lie within their units: last is at most Nz(u) (R33, R37). -/
abbrev WidthsOk (s : State) (records : List UnitParams) : Prop := ∀ p ∈ records, p.last ≤ s.zonesOf p.unit

/-- The content of a staged slot: the received count never exceeds the expected total, and every value lies in 0 to 1000
(R33, R40). -/
abbrev StageOk (c : Stage) : Prop :=
  c.stream.length ≤ c.expected ∧ (∀ v ∈ c.stream, v ≤ 1000) ∧ c.clamped ≤ c.stream.length ∧
    UnitRecordsOk c.units c.records

/-- The content of a COMPLETE slot. -/
def completed : Slot → Option Stage
  | .complete c => some c
  | .empty | .opened _ | .failed _ _ => none

/-- Every listed unit has its record. -/
abbrev AllRecorded (units : List Nat) (records : List UnitParams) : Prop := ∀ u ∈ units, ∃ p ∈ records, p.unit = u

/-- The laws of the staged slot in itself (R33, R41): a COMPLETE one holds its whole stream and every unit record. -/
abbrev SlotOk (s : State) : Prop :=
  (∀ c ∈ s.slot.content, StageOk c) ∧
    ∀ c ∈ completed s.slot, c.stream.length = c.expected ∧ AllRecorded c.units c.records

/-- The staged slot lies within the configuration: its units are configured, its expected total is the sum of their Nz(u),
and its sheet widths lie within them (R33). -/
abbrev SlotFits (s : State) : Prop :=
  ∀ c ∈ s.slot.content,
    UnitListOk s c.units ∧ c.expected = (c.units.map s.zonesOf).sum ∧ WidthsOk s c.records

/-- The laws of the active job in itself (R44): every used unit has its record, in the ranges of R33. -/
abbrev JobOk (s : State) : Prop := ∀ j ∈ s.job, UnitRecordsOk j.units j.records ∧ AllRecorded j.units j.records

/-- The active job lies within the configuration (R33, R44). -/
abbrev JobFits (s : State) : Prop := ∀ j ∈ s.job, UnitListOk s j.units ∧ WidthsOk s j.records

/-! ### The scheduler's laws -/

/-- The records are those of the configuration, one for each pair (u, z), in ascending order (R4, R112). -/
abbrev RecordsOk (s : State) : Prop :=
  s.nz.length ≤ 8 ∧ s.zones.map (fun r => (r.unit, r.zone)) = (createdZones s.nz).map (fun r => (r.unit, r.zone))

/-- While a job is active, the set-point fields of every record are those the chain gives for the inputs as they stand
(R55, R72). -/
abbrev ComputedOk (s : State) : Prop := ∀ j ∈ s.job, ∀ r ∈ s.zones, setPoint s j r = r

/-- The failure count is 3 in FAULTED and 0 to 2 elsewhere (R126). -/
abbrev FailuresOk (r : ZoneRec) : Prop := if r.state = .faulted then r.failures = 3 else r.failures ≤ 2

/-- A fault cause is present exactly in BLOCKED and FAULTED, LINE in FAULTED alone (R13). -/
abbrev CauseOk (r : ZoneRec) : Prop :=
  (r.state = .blocked → r.faultCause = some .stall ∨ r.faultCause = some .timeout) ∧
    (r.state = .faulted → r.faultCause = some .line) ∧
    (r.state ≠ .blocked → r.state ≠ .faulted → r.faultCause = none)

/-- Stale and retry due flags stand in MOVING alone, halt reasons in MOVING and UNKNOWN alone, and the move start time in
MOVING and in UNKNOWN with a halt pending alone (R13, R106); a poll-due time stands in MOVING with empty halt reasons
alone (R148). -/
abbrev MotionOk (r : ZoneRec) : Prop :=
  (r.stale → r.state = .moving) ∧ (r.retryDue → r.state = .moving) ∧
    (r.halts.any → r.state = .moving ∨ r.state = .unknown) ∧
    (r.moveStart.isSome ↔ r.state = .moving ∨ (r.state = .unknown ∧ r.halts.any)) ∧
    (r.pollDue.isSome → r.state = .moving ∧ r.halts.any = false) ∧ r.retries ≤ 2

/-- A zone stands in its unit's move queue exactly while its key state is QUEUED, and at most once (R111). -/
abbrev QueuesOk (s : State) : Prop :=
  (∀ r ∈ s.zones, r.zone ∈ s.queue r.unit ↔ r.state = .queued) ∧
    ∀ u ∈ List.range 9, (s.queue u).Nodup ∧ ∀ z ∈ s.queue u, (s.zone? u z).isSome

/-- No zone is in MOVING unless the supply state is ON, and the number in MOVING never exceeds 24 (R117). -/
abbrev MovingOk (s : State) : Prop :=
  s.movingCount ≤ 24 ∧ ∀ r ∈ s.zones, r.state = .moving → s.supply.state = .on

/-- A QUEUED or MOVING zone, and every zone at rest that was judged, has been sensed; a SETTLED zone holds a settle stamp
(R13, R98, R107). -/
abbrev SensedOk (r : ZoneRec) : Prop :=
  (r.state = .idle ∨ r.state = .settled ∨ r.state = .queued ∨ r.state = .moving ∨ r.state = .missed →
    r.measured.isSome) ∧ (r.state = .settled → r.settleStamp.isSome)

/-- No retry stands due while FREEZE is asserted (R122, R129). -/
abbrev FreezeOk (s : State) : Prop := s.press.freeze.filtered = true → ∀ r ∈ s.zones, r.retryDue = false

/-- There is no zone record outside RUNNING: a reset removes them, and CONFIGURE is taken in RUNNING alone (R17, R172). -/
abbrev PhaseOk (s : State) : Prop := s.press.phase ≠ .running → s.zones = []

/-- The laws of the Move Scheduler together. -/
abbrev SchedulerOk (s : State) : Prop :=
  RecordsOk s ∧ (∀ r ∈ s.zones, FailuresOk r ∧ CauseOk r ∧ MotionOk r ∧ SensedOk r) ∧ QueuesOk s ∧ MovingOk s ∧
    FreezeOk s ∧ PhaseOk s ∧ LimitsOk s

/-! ### Supply and preset -/

/-- The standby timer runs exactly while the standby condition holds and the standby time is not 0, and the warm-up limit
exactly in WARMING (R157, R160); every queue is empty while the supply is OFF (R159); while the preset tracking flag is
set, some zone is QUEUED, MOVING or UNKNOWN (R51). -/
abbrev TimersOk (s : State) : Prop :=
  (s.supply.standby.isSome ↔ s.standbyCondition ∧ s.limits.standbyS ≠ 0) ∧
    (s.supply.warmUp.isSome ↔ s.supply.state = .warming) ∧ (s.supply.state = .off → s.queuesEmpty) ∧
    (s.preset → ∃ r ∈ s.zones, r.state = .queued ∨ r.state = .moving ∨ r.state = .unknown)

/-! ### Key lines -/

/-- A line that is not FREE holds a transaction record and a FREE line holds none; target ticks are present exactly in a
MOVE; the phases past SENDING hold the request end count, and RESTING the end of the transaction (R131, R133, R134, R139). -/
abbrev LineOk (l : Line) : Prop :=
  (l.phase = .free ↔ l.txn = none) ∧
    ∀ t ∈ l.txn,
      (t.ticks.isSome ↔ t.verb = .move) ∧ (l.phase ≠ .sending → t.reqEnd.isSome) ∧
        (l.phase = .receivingStatus → t.symbolAt.isSome) ∧
        (l.phase = .awaitEcho ∨ l.phase = .echo → t.symbol.isSome ∧ l.capture.armed) ∧
        (l.phase = .echo → l.capture.rise.isSome) ∧ (l.phase = .resting → t.endedAt.isSome ∧ l.capture.armed = false)

abbrev LinesOk (s : State) : Prop := ∀ l ∈ s.lines.toList, LineOk l

end Sys2Proof.Safety
end

