-- ==== Sys2Proof/Certificates/Slice0/Obligations.lean ====
section
/-! DEFINITION. The statements about the part, with the words they are written in. -/

namespace Sys2Proof.Claims

open Sys2Proof.Machine Sys2Proof.Safety

/-! ### Frames and answers -/

/-- The part is RUNNING and port p is not BUSY: a REQUEST frame clocked there is taken and executed (R175, R176). -/
def Free (s : State) (p : Port) : Prop := s.press.phase = .running ∧ ∀ r b, (s.port p).cmd ≠ .busy r b

/-- The frame carries exactly the operand words `ws`, at most 128, under their count, on port p (R177). -/
def Carries (f : Frame) (p : Port) (ws : List Word) : Prop :=
  f.port = p ∧ f.declared = some (BitVec.ofNat 16 ws.length) ∧ f.words = ws ∧ f.partialWord = false ∧ ws.length ≤ 128

/-- The state `t` with the frame's port BUSY: its execution will leave the record with this request code, the frame's
tag, the outcome and the data words; the word 0 was shifted out (R175, R176, R178). The entry of a table that resets
keep which it has written is the latest of those under way (log 7). -/
def answersWith (wrote : Option TableWrite) (f : Frame) (code : BitVec 8) (o : ResultCode) (data : List Word) (t : State) :
    State :=
  { t with kept := { t.kept with underWay := t.kept.underWay ++ wrote.toList.map (fun w => (f.port, w)) } }.modPort
    f.port (fun c => { c with cmd := .busy ⟨code, f.tag, o, data⟩ false, out := [0] })

/-- The same for a request that has written no entry of those tables. -/
def answers (f : Frame) (code : BitVec 8) (o : ResultCode) (data : List Word) (t : State) : State :=
  answersWith none f code o data t

/-- The command of a request of the table of R177. -/
def command : Req → Frame → Instr
  | .identify => .identify | .readStatus => .readStatus | .readZones => .readZones | .readJob => .readJob
  | .readCurve => .readCurve | .setMask => .setMask | .ackNotices => .ackNotices | .portReset => .portReset
  | .configure => .configure | .deviceReset => .deviceReset | .takeJob => .takeJob | .endJob => .endJob
  | .setSweep => .setSweep | .discardStage => .discardStage | .defineCurve => .defineCurve
  | .deleteCurve => .deleteCurve | .setConsoleTrim => .setConsoleTrim | .adjustConsoleTrim => .adjustConsoleTrim
  | .clearTrims => .clearTrims | .setLoopHold => .setLoopHold | .disableZone => .disableZone
  | .enableZone => .enableZone | .releaseZone => .releaseZone | .setKeyCal => .setKeyCal | .readEcho => .readEcho
  | .holdKeys => .holdKeys | .resumeKeys => .resumeKeys | .setLimits => .setLimits | .supplyRetry => .supplyRetry
  | .setLoopParameters => .setLoopParameters | .setTestPosting => .setTestPosting | .testNotice => .testNotice
  | .beginStage => .beginStage | .stageUnit => .stageUnit | .stageData => .stageData | .endStage => .endStage
  | .applyDeviations => .applyDeviations

/-- A row of the request table of R177: code, ports, the operand words it requires as read from a frame's operand words
(none where the frame ends before its count operand), and whether it needs a configured device. -/
structure RequestRow where
  request : Req
  code : Nat
  ports : List Port
  operands : List Word → Option Nat
  configured : Bool

/-- A request with a fixed number of operand words. -/
def fixed (n : Nat) (_ws : List Word) : Option Nat := some n

/-- A request of base + per × count operand words, its count the operand at place `i` from 0. -/
def counted (i base per : Nat) (ws : List Word) : Option Nat := (ws[i]?).map (fun w => base + per * w.toNat)

/-- The request table of R177 without PORT RESET, whose operand words are not checked. -/
def requestTable : List RequestRow :=
  [⟨.identify, 1, [.console, .job, .loop], fixed 0, false⟩, ⟨.readStatus, 2, [.console, .job, .loop], fixed 0, false⟩,
    ⟨.readZones, 3, [.console, .job, .loop], fixed 3, true⟩, ⟨.readJob, 4, [.console, .job, .loop], fixed 0, true⟩,
    ⟨.readCurve, 5, [.console, .job, .loop], fixed 1, false⟩, ⟨.setMask, 6, [.console, .job, .loop], fixed 1, false⟩,
    ⟨.ackNotices, 7, [.console, .job, .loop], fixed 1, false⟩, ⟨.configure, 16, [.console], counted 0 1 1, false⟩,
    ⟨.deviceReset, 17, [.console], fixed 0, false⟩, ⟨.takeJob, 18, [.console], fixed 0, true⟩,
    ⟨.endJob, 19, [.console], fixed 0, true⟩, ⟨.setSweep, 20, [.console], fixed 2, true⟩,
    ⟨.discardStage, 21, [.console, .job], fixed 0, true⟩, ⟨.defineCurve, 24, [.console, .job], counted 2 3 2, false⟩,
    ⟨.deleteCurve, 25, [.console, .job], fixed 1, false⟩, ⟨.setConsoleTrim, 32, [.console], counted 2 3 1, true⟩,
    ⟨.adjustConsoleTrim, 33, [.console], counted 2 3 1, true⟩, ⟨.clearTrims, 34, [.console], fixed 2, true⟩]
  ++ [⟨.setLoopHold, 35, [.console], counted 2 3 1, true⟩, ⟨.disableZone, 36, [.console], fixed 2, true⟩,
    ⟨.enableZone, 37, [.console], fixed 2, true⟩, ⟨.releaseZone, 38, [.console], fixed 2, true⟩,
    ⟨.setKeyCal, 39, [.console], fixed 4, false⟩, ⟨.readEcho, 40, [.console], fixed 2, true⟩,
    ⟨.holdKeys, 41, [.console], fixed 0, true⟩, ⟨.resumeKeys, 42, [.console], fixed 0, true⟩,
    ⟨.setLimits, 43, [.console], fixed 5, false⟩, ⟨.supplyRetry, 44, [.console], fixed 0, true⟩,
    ⟨.setLoopParameters, 45, [.console], fixed 4, false⟩, ⟨.setTestPosting, 46, [.console], fixed 2, false⟩,
    ⟨.testNotice, 47, [.console], fixed 2, false⟩, ⟨.beginStage, 48, [.job], counted 1 2 1, true⟩,
    ⟨.stageUnit, 49, [.job], fixed 7, true⟩, ⟨.stageData, 50, [.job], counted 0 1 1, true⟩,
    ⟨.endStage, 51, [.job], fixed 0, true⟩, ⟨.applyDeviations, 56, [.loop], counted 4 5 1, true⟩]

/-- The frame length matches the request of a row (R177 step 2). -/
def LengthMatches (row : RequestRow) (f : Frame) : Prop :=
  ∃ l : Word, f.declared = some l ∧ f.partialWord = false ∧ f.words.length = l.toNat ∧ l.toNat ≤ 128 ∧
    row.operands f.words = some l.toNat

/-- The operand words of a frame that does not match, as FRAME_ERROR counts them: a trailing partial word counts as one,
the words in excess of 128 are discarded, and a frame that ends before its count has none (R175, R177; log 12). -/
def receivedWords (f : Frame) : Nat :=
  match f.declared with
  | none => 0
  | some _ => min 128 (f.words.length + if f.partialWord then 1 else 0)

/-- The whole words clocked in a REQUEST frame: the header, the count and the operand words. -/
def clockedWords (f : Frame) : Nat :=
  match f.declared with
  | none => 1
  | some _ => 2 + f.words.length

/-- The request codes of the table of R177, PORT RESET's included. -/
def knownCodes : List Nat := 8 :: requestTable.map RequestRow.code

/-! ### Words -/

/-- The header word of the fetch reply: state, dropped flag, test-posting switch, tag, code. -/
def replyHeader (state : BitVec 2) (c : PortCtl) (tag : BitVec 4) (code : BitVec 8) : Word :=
  state ++ BitVec.ofBool c.dropped ++ BitVec.ofBool c.test ++ tag ++ code

/-- The upper and the lower word of a 32-bit number. -/
def upperWord (x : BitVec 32) : Word := BitVec.ofNat 16 (x.toNat / 65536)
def lowerWord (x : BitVec 32) : Word := BitVec.ofNat 16 (x.toNat % 65536)

/-- A number and a flag as data words. -/
def num (n : Nat) : Word := BitVec.ofNat 16 n
def flag (b : Bool) : Word := if b then 1 else 0

/-- The codes of the supply states (09_key_supply.md). -/
def supplyNumber : SupplyState → Nat
  | .off => 0 | .warming => 1 | .on => 2 | .failed => 3

/-- The codes of the device states (R182). -/
def deviceNumber : DeviceState → Nat
  | .unconfigured => 0 | .configured => 1 | .jobActive => 2

/-- The codes of the key states, in the order of the table of key states (R75). -/
def keyNumber : KeyState → Nat
  | .unknown => 0 | .idle => 1 | .settled => 2 | .queued => 3 | .moving => 4 | .missed => 5 | .blocked => 6
  | .faulted => 7 | .disabled => 8

/-- The codes of the slot states (R52). -/
def slotNumber : Slot → Nat
  | .empty => 0 | .opened _ => 1 | .complete _ => 2 | .failed _ _ => 3

/-- The codes of the outcomes (R178). -/
def outcomeNumber : ResultCode → Nat
  | .ok => 0 | .wrongPort => 1 | .notConfigured => 2 | .wrongState => 3 | .badParam => 4 | .unknownRequest => 5
  | .frameError => 6 | .stageOpen => 7 | .noStage => 8 | .notReady => 10 | .curveMissing => 11 | .curveInUse => 12
  | .zoneBusy => 13 | .noJob => 14 | .noPrint => 15 | .badSheet => 16 | .testOff => 17 | .testActive => 18

/-! ### Words of later statements -/

/-- The two tables read in `t` as they do in `s`. -/
def SameTables (s t : State) : Prop := (∀ k, t.curve? k = s.curve? k) ∧ ∀ u z, t.calEntry u z = s.calEntry u z

/-- R7, R15, R17, R31, R43, R44, R88, R90, R130, R131, R140, R165, R166, R181: what every reset but PORT RESET leaves,
the two tables and the filtered levels apart: no jobs, no zones, no queues, part time and Echo Timer at 0, SUPPLY-EN and
the attention lines deasserted, every parameter, flag, line and port at its reset value. The pins stay as they are
driven. -/
def ResetLeaves (s t : State) : Prop :=
  t.pending = s.pending ∧ t.clock.now = ⟨0, 0⟩ ∧ t.clock.echo = 0 ∧ t.device = .unconfigured ∧ t.nz = [] ∧
    t.zones = [] ∧ t.slot = .empty ∧ t.job = none ∧
    t.limits = ⟨12, 4, 100, 8, 60⟩ ∧ t.loop = ⟨20, 10, 15, 40⟩ ∧ (∀ u, t.queue u = []) ∧ t.pointer = 8 ∧
    t.hold = false ∧ t.preset = false ∧
    (∀ u, t.line u = { phase := .free, txn := none, haltMark := none, capture := ⟨none, none, false⟩ }) ∧
    t.supply.state = .off ∧ t.supply.enable = false ∧ t.supply.warmUp = none ∧ t.supply.standby = none ∧
    t.supply.ok.pending = none ∧ t.supply.ok.raw = s.supply.ok.raw ∧ t.press.sheets = 0 ∧ t.press.lastEdge = none ∧
    t.press.sheetPin = s.press.sheetPin ∧ t.press.impression.raw = s.press.impression.raw ∧
    t.press.freeze.raw = s.press.freeze.raw ∧ t.press.impression.pending = none ∧ t.press.freeze.pending = none ∧
    ∀ p, (t.port p).cmd = .idle ∧ (t.port p).dropped = false ∧ (t.port p).notices = 0 ∧ (t.port p).mask = 0 ∧
      (t.port p).test = false ∧ (t.port p).attention = false

/-- The end of a reset (R7, R140, R158, R169, R172): the clocks start from 0, the three filters take the raw levels, and
the phase is ANSWER DELAY; everything else as it stands but the RESET pin. -/
def resetEnds (s : State) (pin : Bool) : State :=
  { s with
    clock := ⟨⟨0, 0⟩, 0, 0⟩
    supply := { s.supply with ok := ⟨s.supply.ok.raw, s.supply.ok.raw, none⟩ }
    press := { s.press with
      resetPin := pin, impression := ⟨s.press.impression.raw, s.press.impression.raw, none⟩
      freeze := ⟨s.press.freeze.raw, s.press.freeze.raw, none⟩, phase := .answerDelay } }

/-- The breakpoints a list of word pairs carries. -/
def breakpoints (ps : List (Word × Word)) : List Breakpoint := ps.map (fun q => ⟨q.1.toNat, q.2.toNat⟩)

/-- The slot is OPEN. -/
def isOpen (s : State) : Prop := ∃ c, s.slot = .opened c

/-- The zones, in the order of the table, whose target differs between two lists of their records (R71). -/
def changedZones (old new : List ZoneRec) : List (Nat × Nat) :=
  ((old.zip new).filter (fun q => q.1.target != q.2.target)).map (fun q => (q.2.unit, q.2.zone))

/-- The place in the coverage stream of zone z of a listed unit u, counted from 0 (R38). -/
def streamPlace (s : State) (units : List Nat) (u z : Nat) : Nat :=
  ((units.takeWhile (fun v => v != u)).map s.zonesOf).sum + z - 1

/-- The fields of a record that a set-point computation may write are those of `r'`, every other those of `r`. -/
def OnlySetPoint (r r' : ZoneRec) : Prop :=
  r' = { r with
    coverage := r'.coverage, effective := r'.effective, base := r'.base, target := r'.target, limit := r'.limit }

/-- The coverage of the neighbour z + d of zone z, the coverage c of zone z where it stands in (R60). -/
def neighbour (s : State) (p : UnitParams) (u z c : Nat) (d : Int) : Nat :=
  if (p.first : Int) ≤ z + d ∧ z + d ≤ (p.last : Int) then
    (((s.zone? u ((z : Int) + d).toNat)).bind ZoneRec.coverage).getD c
  else c

/-- The records after the trims of a request are written by `g` and each zone whose trims changed is recomputed while a
job is active (R65, R69, R78, R79, R101). -/
def retrimmed (s : State) (g : ZoneRec → ZoneRec) : State :=
  { s with zones := s.zones.map (fun r => match s.job with
    | none => g r
    | some j => if g r = r then r else setPoint s j (g r)) }

/-- A trim request's whole effect: the trims, the recomputation and one batch (R71). -/
def trimmed (s : State) (g : ZoneRec → ZoneRec) : State :=
  (retrimmed s g).handBatch (changedZones s.zones (retrimmed s g).zones)

/-- The number of zones whose trims `g` changes, and the number in the batch. -/
def trimCounts (s : State) (g : ZoneRec → ZoneRec) : List Word :=
  [num (s.zones.countP (fun r => g r != r)), num (changedZones s.zones (retrimmed s g).zones).length]

/-- Zone r lies in the run of n zones of unit u from f. -/
def inRun (u f n : Nat) (r : ZoneRec) : Bool := r.unit == u && f ≤ r.zone && r.zone < f + n

/-- The run is valid under R5. -/
def runValid (s : State) (u f n : Nat) : Prop :=
  1 ≤ u ∧ u ≤ s.nz.length ∧ 1 ≤ f ∧ 1 ≤ n ∧ f + n - 1 ≤ s.zonesOf u

/-- A value brought into −m to +m. -/
def within (m : Int) (x : Int) : Int := if x < -m then -m else if m < x then m else x

/-- The word of a run's i-th zone, i from 0. -/
def runWord (ws : List Word) (f : Nat) (r : ZoneRec) : Word := ws.getD (r.zone - f) 0

/-- A record that enters key state k, k other than MOVING: stale and retry due flags clear, no halt pending, no move
start and no poll-due time, the fault cause as given (R13, R106, R148). -/
def atRest (k : KeyState) (cause : Option FaultCause) (r : ZoneRec) : ZoneRec :=
  { r with
    state := k, stale := false, retryDue := false, halts := ⟨false, false, false, false⟩, moveStart := none
    pollDue := none, faultCause := cause }

/-- The records with that of zone (u, z) changed by `g`. -/
def zoneSet (s : State) (u z : Nat) (g : ZoneRec → ZoneRec) : List ZoneRec :=
  s.zones.map (fun r => if r.unit = u ∧ r.zone = z then g r else r)

/-- The two states differ in zone records, queues, notice sets, supply state and timers, and the preset tracking flag
alone. -/
def OnlyScheduler (s t : State) : Prop :=
  t = { s with ports := t.ports, zones := t.zones, queues := t.queues, supply := t.supply, preset := t.preset } ∧
    (∀ p, t.port p = { s.port p with notices := (t.port p).notices }) ∧ t.supply.ok = s.supply.ok

/-- The queue of unit u is `q` and every other queue is as it was. -/
def OnlyQueue (s t : State) (u : Nat) (q : List Nat) : Prop := ∀ v, t.queue v = if v = u then q else s.queue v

/-- The distance of position and target (R107). -/
def distance (p t : Nat) : Nat := (p - t) + (t - p)

/-- A zone at rest after its evaluation (R107): IDLE without a target, SETTLED within tolerance, QUEUED outside it. A
record with a target but no position is left as it is (log 21). -/
def evaluated (s : State) (r : ZoneRec) : ZoneRec :=
  match r.target, r.measured with
  | none, _ => { atRest .idle none r with retries := 0 }
  | some _, none => r
  | some t, some p =>
    if distance p t ≤ s.limits.tolerance then
      { atRest .settled none r with
        retries := 0, settleStamp := if r.state = .settled then r.settleStamp else some s.press.sheets }
    else { atRest .queued none r with retries := 0 }

/-- A zone of a batch after its retarget, by its key state (R113 to R115). -/
def retargeted (s : State) (r : ZoneRec) : ZoneRec :=
  match r.state with
  | .idle | .settled | .missed => evaluated s r
  | .queued =>
    match r.target, r.measured with
    | none, _ => atRest .idle none r
    | some _, none => r
    | some t, some p =>
      if distance p t ≤ s.limits.tolerance then { atRest .settled none r with settleStamp := some s.press.sheets } else r
  | .moving => { r with stale := true }
  | .unknown | .blocked | .faulted | .disabled => r

/-- A zone sent to its queue without an evaluation: IDLE instead while its target is absent (R107). -/
def requeued (r : ZoneRec) : ZoneRec := atRest (if r.target.isNone then .idle else .queued) none r

/-- The zones of unit u that `after` takes into QUEUED, in ascending order. -/
def joiners (s : State) (after : ZoneRec → ZoneRec) (u : Nat) : List Nat :=
  (s.zones.filter (fun r => r.unit == u && r.state != .queued && (after r).state == .queued)).map ZoneRec.zone

/-- No zone is QUEUED, MOVING or UNKNOWN: the preset condition (R51). -/
def presetOver (zones : List ZoneRec) : Prop :=
  ∀ r ∈ zones, r.state ≠ .queued ∧ r.state ≠ .moving ∧ r.state ≠ .unknown

/-- R51 (log 26): the preset tracking flag and the notice sets after an event that posted the kinds `posted` beside:
with the flag set and the preset condition met, the flag is clear and PRESET_DONE posted to the Console and the Loop
Port. -/
def PresetFollows (s t : State) (posted : Port → BitVec 8) : Prop :=
  (s.preset = true → presetOver t.zones →
    t.preset = false ∧
      ∀ p, (t.port p).notices = (s.port p).notices ||| posted p ||| (if p = .job then 0 else 8)) ∧
  (¬ (s.preset = true ∧ presetOver t.zones) →
    t.preset = s.preset ∧ ∀ p, (t.port p).notices = (s.port p).notices ||| posted p)

/-- R160 (log 26): the standby timer after an event: stopped by a zone that joined a queue; started when it stood
stopped, the standby condition now holds and the standby time is not 0; otherwise as it was. -/
def StandbyFollows (s t : State) (joined : Prop) : Prop :=
  let starts := t.supply.state = .on ∧ (∀ q ∈ t.queues.toList, q = []) ∧ (∀ r ∈ t.zones, r.state ≠ .moving) ∧
    s.supply.standby = none ∧ s.limits.standbyS ≠ 0
  (joined → t.supply.standby = none) ∧
  (¬ joined → starts → t.supply.standby = some ⟨s.clock.now.ms, s.limits.standbyS * 1000⟩) ∧
  (¬ joined → ¬ starts → t.supply.standby = s.supply.standby)

/-- Some zone is taken into QUEUED by `after`. -/
def someJoins (s : State) (after : ZoneRec → ZoneRec) : Prop :=
  ∃ r ∈ s.zones, r.state ≠ .queued ∧ (after r).state = .queued

/-- A HALT is offered for the zone, a poll is due, a retry is due, a survey SENSE is offered (R106, R148). -/
def haltWaits (r : ZoneRec) : Prop := (r.state = .moving ∨ r.state = .unknown) ∧ r.halts.any = true
def pollWaits (s : State) (r : ZoneRec) : Prop :=
  r.state = .moving ∧ r.halts.any = false ∧
    ∃ d, r.pollDue = some d ∧ d.interval ≤ (s.clock.now.ms - d.ended).toNat
def retryWaits (r : ZoneRec) : Prop := r.state = .moving ∧ r.halts.any = false ∧ r.retryDue = true
def surveyWaits (r : ZoneRec) : Prop := r.state = .unknown ∧ r.halts.any = false

/-- Key line u requests the budget (R116). -/
def requestsBudget (s : State) (u : Nat) : Prop :=
  s.queue u ≠ [] ∧ s.supply.state = .on ∧ s.hold = false ∧ s.press.freeze.filtered = false ∧
    (s.line u).phase = .free ∧ ∀ r ∈ s.zones, r.unit = u → ¬ haltWaits r ∧ ¬ pollWaits s r ∧ ¬ retryWaits r

/-- The line considered at place i, from 0, of the arbiter's order: it starts after the pointer and wraps from line 8 to
line 1 (R116). -/
def arbiterLine (s : State) (i : Nat) : Nat := (s.pointer + i) % 8 + 1

/-- The arbiter grants line u next (R116). -/
def grantsNext (s : State) (u : Nat) : Prop :=
  s.zones.countP (fun r => r.state == .moving) < s.limits.budget ∧
    ∃ i < 8, u = arbiterLine s i ∧ requestsBudget s u ∧ ∀ j < i, ¬ requestsBudget s (arbiterLine s j)

/-- Key line u at the start of a transaction (R134). -/
def sending (s : State) (u z : Nat) (v : Verb) (ticks : Option (BitVec 13)) (saved : Option PollDue) : Line :=
  { phase := .sending
    txn := some
      { zone := z, verb := v, ticks := ticks, started := s.clock.echo, reqEnd := none, symbolAt := none, symbol := none
        savedPoll := saved, endedAt := none }
    haltMark := (s.line u).haltMark
    capture := ⟨none, none, false⟩ }

/-- What a turn of key line u may change (R149): ports, zones, queues, supply, pointer and preset flag as the evaluations and
the grant within it do, and its own line alone, which is as it was or has started a transaction. -/
def turnMakes (s : State) (u : Nat) (v : State) : Prop :=
  v = { s with
    ports := v.ports, zones := v.zones, queues := v.queues, pointer := v.pointer, preset := v.preset
    lines := v.lines, supply := v.supply } ∧
  (∀ w, w ≠ u → v.line w = s.line w) ∧
  (v.line u = s.line u ∨ ∃ z verb ticks saved, v.line u = sending s u z verb ticks saved)

/-- The target ticks a MOVE of zone (u, z) carries, from its record `r` (R66). -/
def moveTicksOf (s : State) (u z : Nat) (r : ZoneRec) : BitVec 13 :=
  BitVec.ofNat 13 ((s.calEntry u z).zero + roundHalfUp (r.target.getD 0 * 4096) (s.calEntry u z).gain)

/-- Key line u at the end of its transaction `t` (R139, R141, R150). -/
def lineEnded (s : State) (u : Nat) (t : Txn) (fall : Option (BitVec 16)) : State :=
  s.setLine u
    { phase := .resting
      txn := some { t with endedAt := some s.clock.echo }
      haltMark := if t.verb = .halt then some t.zone else none
      capture := { rise := (s.line u).capture.rise, fall := fall, armed := false } }

/-- The part after a failure is taken for the zone of transaction `t`, whose record is `r` (R82, R119, R126, R146,
R148): not counted for a DISABLED zone, the third makes it FAULTED, and a first or second leaves the next poll due as
the verb gives. -/
def failureTaken (s : State) (u : Nat) (t : Txn) (r : ZoneRec) : State :=
  if r.state = .disabled then s
  else if 2 ≤ r.failures then s.enter u t.zone .faulted (some .line) (fun q => { q with failures := 3 })
  else { s with
    zones := zoneSet s u t.zone (fun q =>
      { q with
        failures := q.failures + 1
        pollDue :=
          if r.state = .moving ∧ r.halts.any = false then
            (match t.verb with
              | .move => some ⟨s.clock.now.ms, s.limits.pollMs⟩
              | .sense => t.savedPoll
              | .halt => q.pollDue)
          else q.pollDue }) }

/-- The level after its pending change is taken (R169). -/
def levelAfter (l : Level) (level : Bool) : Level := ⟨l.raw, level, none⟩

/-- A pending change of the level has stood for 1 ms (R169). -/
def changeDue (s : State) (l : Level) (level : Bool) : Prop :=
  ∃ since, l.pending = some ⟨level, since⟩ ∧ 1000 ≤ elapsedUs s.clock.now since

/-- A level after a change of its raw line while the filter runs (R169). -/
def rawTaken (s : State) (l : Level) (level : Bool) : Level :=
  if l.raw = level then l else if level = l.filtered then ⟨level, l.filtered, none⟩
  else ⟨level, l.filtered, some ⟨level, s.clock.now⟩⟩

end Sys2Proof.Claims

section
open Sys2Proof Sys2Proof.Machine Sys2Proof.Safety Sys2Proof.Claims

/-! ### The machine -/

/-- One step executes the command at the front of the queue on the queue's rest. -/
def Obligations.FrontCommandIsExecuted : Prop :=
  ∀ (c : Instr) (s : State) (rest : List Instr),
    step { s with pending := c :: rest } = exec c { s with pending := rest }

/-- MODEL'S CHOICE (log 4): on an empty queue one microsecond passes. The part time and the Echo Timer run in ANSWER
DELAY and RUNNING, the part time modulo 2^32 ms and the counter modulo 65 536 (R7, R140); the time of the phase runs in
START-UP and ANSWER DELAY; in HELD nothing runs. -/
def Obligations.EmptyQueuePassesOneMicrosecond : Prop :=
  ∀ s : State, s.pending = [] → ∃ t, step s = .next t ∧
    t = { s with clock := t.clock } ∧
    (s.press.phase = .held → t.clock = s.clock) ∧
    (s.press.phase = .startUp → t.clock = { s.clock with phaseUs := s.clock.phaseUs + 1 }) ∧
    (s.press.phase = .answerDelay → t.clock.phaseUs = s.clock.phaseUs + 1) ∧
    (s.press.phase = .running → t.clock.phaseUs = s.clock.phaseUs) ∧
    (s.press.phase = .answerDelay ∨ s.press.phase = .running →
      t.clock.echo = s.clock.echo + 1 ∧
        t.clock.now.ms.toNat * 1000 + t.clock.now.us.val =
          (s.clock.now.ms.toNat * 1000 + s.clock.now.us.val + 1) % (2 ^ 32 * 1000))

/-- The part at power-on: every field at the value its reset table gives (R7, R15, R17, R31, R43, R44, R88, R90, R130,
R131, R140, R165, R166, R181). Both tables are cleared also as a later reset would keep them (log 7). -/
def Obligations.ResetStateHoldsThePowerOnValues : Prop :=
  let s := State.reset
  s.pending = [] ∧ s.press.phase = .startUp ∧ s.clock.now = ⟨0, 0⟩ ∧ s.clock.echo = 0 ∧ s.device = .unconfigured ∧
    s.nz = [] ∧ s.zones = [] ∧
    (∀ u z, s.calEntry u z = ⟨500, 410⟩ ∧ calAt s.kept.cal u z = ⟨500, 410⟩) ∧
    (∀ k, s.curve? k = none ∧ s.kept.curves.getD k none = none) ∧ s.kept.underWay = [] ∧ s.slot = .empty ∧ s.job = none ∧
    s.limits = ⟨12, 4, 100, 8, 60⟩ ∧ s.loop = ⟨20, 10, 15, 40⟩ ∧ (∀ u, s.queue u = []) ∧ s.pointer = 8 ∧
    s.hold = false ∧ s.preset = false ∧
    (∀ u, s.line u = { phase := .free, txn := none, haltMark := none, capture := ⟨none, none, false⟩ }) ∧
    s.supply.state = .off ∧ s.supply.enable = false ∧ s.supply.warmUp = none ∧ s.supply.standby = none ∧
    s.supply.ok.pending = none ∧ s.press.sheets = 0 ∧ s.press.lastEdge = none ∧ s.press.impression.pending = none ∧
    s.press.freeze.pending = none ∧
    ∀ p, (s.port p).cmd = .idle ∧ (s.port p).dropped = false ∧ (s.port p).notices = 0 ∧ (s.port p).mask = 0 ∧
      (s.port p).test = false ∧ (s.port p).attention = false

/-- No command stops the part: every command in every state answers a next state. -/
def Obligations.EveryCommandAnswersANextState : Prop := ∀ (c : Instr) (s : State), ∃ t, exec c s = .next t

/-! ### Frames at the ports -/

/-- R175: the header word of a frame picks its command: frame type 5 the request that bits 7 to 0 name in the table of
R177, with the tag of bits 11 to 8, 9 a FETCH, any other type a frame that is not taken; a frame of fewer than 16 clocks
has no command, and a partial word trails a REQUEST alone. R177 steps 1 to 4: the first refusal that applies. A row's
FRAME_ERROR gives the operand words received and the number required, 0 when that number could not be found; a required
number above 65 535 has no word in the spec (log 11) and is left out here. The count received follows log 12. -/
def Obligations.RequestFramesAreRefusedInOrder : Prop :=
  (∀ (f : Frame) (code : BitVec 8),
    requestCommand 8 f = .portReset f ∧
    (∀ row ∈ requestTable, requestCommand (BitVec.ofNat 8 row.code) f = command row.request f) ∧
    (code.toNat ∉ knownCodes → requestCommand code f = .unknownRequest code f)) ∧
  (∀ (p : Port) (bits : List Bool), bits.length < 16 → frameCommand p bits = none) ∧
  (∀ (p : Port) (type tag : BitVec 4) (code : BitVec 8) (ws : List Word) (tail : List Bool), tail.length < 16 →
    let header : Word := type ++ tag ++ code
    let bits := (header :: ws).flatMap fieldBits ++ tail
    (type = 5 → frameCommand p bits = some (requestCommand code ⟨p, tag, ws.head?, ws.tail, tail.length != 0⟩)) ∧
    (type = 9 → frameCommand p bits = some (.fetch p (ws.length + 1))) ∧
    (type ≠ 5 → type ≠ 9 → frameCommand p bits = some (.unknownFrameType p type (ws.length + 1)))) ∧
  (∀ q, q ≠ .portReset → ∃ row ∈ requestTable, row.request = q) ∧
  (∀ row ∈ requestTable, ∀ (f : Frame) (s : State), Free s f.port →
    (¬ LengthMatches row f → (row.operands (f.words.take 128)).getD 0 < 65536 →
      exec (command row.request f) s =
        .next (answers f (BitVec.ofNat 8 row.code) .frameError
          [num (receivedWords f), num ((row.operands (f.words.take 128)).getD 0)] s)) ∧
    (LengthMatches row f → f.port ∉ row.ports →
      exec (command row.request f) s = .next (answers f (BitVec.ofNat 8 row.code) .wrongPort [] s)) ∧
    (LengthMatches row f → f.port ∈ row.ports → row.configured = true → s.device = .unconfigured →
      exec (command row.request f) s = .next (answers f (BitVec.ofNat 8 row.code) .notConfigured [] s))) ∧
  ∀ (code : BitVec 8) (f : Frame) (s : State), Free s f.port → code.toNat ∉ knownCodes →
    exec (.unknownRequest code f) s = .next (answers f code .unknownRequest [] s)

/-- R176: while a port is BUSY a REQUEST frame other than PORT RESET is discarded and sets the dropped flag, and nothing
else changes but the word 0 shifted out (R175). R175: so does a frame whose type is neither REQUEST nor FETCH, in every
command state. -/
def Obligations.FramesAreDroppedWhileBusy : Prop :=
  (∀ (s : State) (p : Port), s.press.phase = .running → (∃ r b, (s.port p).cmd = .busy r b) →
    (∀ q f, q ≠ .portReset → f.port = p →
      exec (command q f) s = .next (s.modPort p (fun c => { c with dropped := true, out := [0] }))) ∧
    (∀ code f, code.toNat ∉ knownCodes → f.port = p →
      exec (.unknownRequest code f) s = .next (s.modPort p (fun c => { c with dropped := true, out := [0] }))) ∧
    ∀ n, 1 ≤ n →
      exec (.requestDiscardedBusy p n) s = .next (s.modPort p (fun c => { c with dropped := true, out := [0] }))) ∧
  ∀ (s : State) (p : Port) (type : BitVec 4) (n : Nat), s.press.phase = .running → type ≠ 5 → type ≠ 9 → 1 ≤ n →
    exec (.unknownFrameType p type n) s = .next (s.modPort p (fun c => { c with dropped := true, out := [0] }))

/-- R172, R173, R175: while the reset phase is START-UP, HELD or ANSWER DELAY no frame is taken, and a master that
clocks one reads all ones. -/
def Obligations.FramesAreNotTakenOutsideRunning : Prop :=
  ∀ (s : State) (p : Port), s.press.phase ≠ .running →
    (∀ q f, f.port = p →
      exec (command q f) s =
        .next (s.modPort p (fun c => { c with out := List.replicate (clockedWords f) 0xFFFF }))) ∧
    (∀ code f, code.toNat ∉ knownCodes → f.port = p →
      exec (.unknownRequest code f) s =
        .next (s.modPort p (fun c => { c with out := List.replicate (clockedWords f) 0xFFFF }))) ∧
    ∀ n, 1 ≤ n →
      exec (.fetch p n) s = .next (s.modPort p (fun c => { c with out := List.replicate n 0xFFFF })) ∧
      exec (.requestDiscardedBusy p n) s = .next (s.modPort p (fun c => { c with out := List.replicate n 0xFFFF })) ∧
      ∀ type : BitVec 4, type ≠ 5 → type ≠ 9 →
        exec (.unknownFrameType p type n) s = .next (s.modPort p (fun c => { c with out := List.replicate n 0xFFFF }))

/-- R178, R179 and the fetch reply header: after the leading 0 the reply gives state, dropped flag, switch, tag and
code, then mask and notice set, the outcome's code, data word count and data words; words beyond its end are 0; the
dropped flag is cleared and nothing else changes. -/
def Obligations.FetchShiftsOutTheReply : Prop :=
  ∀ (s : State) (p : Port) (n : Nat), s.press.phase = .running → 1 ≤ n →
    let shifted (reply : List Word) : State :=
      s.modPort p (fun c => { c with dropped := false, out := (0 :: reply ++ List.replicate n 0).take n })
    let kinds : Word := (s.port p).mask ++ (s.port p).notices
    ((s.port p).cmd = .idle → exec (.fetch p n) s = .next (shifted [replyHeader 0 (s.port p) 0 0, kinds, 255, 0])) ∧
    (∀ r b, (s.port p).cmd = .busy r b →
      exec (.fetch p n) s = .next (shifted [replyHeader 1 (s.port p) r.tag r.code, kinds, 255, 0])) ∧
    ∀ r, (s.port p).cmd = .done r →
      exec (.fetch p n) s =
        .next (shifted
          ([replyHeader 2 (s.port p) r.tag r.code, kinds, num (outcomeNumber r.outcome), num r.data.length] ++ r.data))

/-- R176, R180: at the end of an execution the port goes DONE with the result record, or takes the effects of the PORT
RESET that came during it. R29, R31, R174, R178 (log 7): the table entry the request wrote is from then on kept by a
reset; what requests executed before it have written to the same entry and are still under way is kept no more, whenever
they end; what requests executed after it have written is untouched. EXECUTION_END on a port that is not BUSY changes
nothing (log 6). A PORT RESET acts at once when no request is being executed, whatever its operand words, and on its own
port alone; that a frame whose length R177 would refuse in another request is honoured too is the model's choice (log
31); the mask is kept. -/
def Obligations.ExecutionsEndAndPortResetActs : Prop :=
  ∀ (s : State) (p : Port),
    (∀ r b, (s.port p).cmd = .busy r b → ∃ k : Kept,
      exec (.executionEnd p) s =
        .next ({ s with kept := k }.modPort p (fun c =>
          if b then { c with cmd := .idle, dropped := false, notices := 0, test := false } else { c with cmd := .done r })) ∧
      ((∀ e ∈ s.kept.underWay, e.1 ≠ p) → k = s.kept) ∧
      ∀ w before after, s.kept.underWay = before ++ (p, w) :: after → (∀ e ∈ before, e.1 ≠ p) →
        k.underWay = before.filter (fun e => !e.2.sameEntry w) ++ after ∧
        (∀ i c, w = .curve i c → k.curves = s.kept.curves.setIfInBounds i c ∧ k.cal = s.kept.cal) ∧
        ∀ u z e, w = .cal u z e → 1 ≤ u → u ≤ 8 → 1 ≤ z → z ≤ 36 →
          k.curves = s.kept.curves ∧ ∀ v y, calAt k.cal v y = if v = u ∧ y = z then e else calAt s.kept.cal v y) ∧
    ((∀ r b, (s.port p).cmd ≠ .busy r b) → exec (.executionEnd p) s = .next s) ∧
    (∀ (q : Port) (i : Nat) (c d : Option Curve) (before mid after : List (Port × TableWrite)) (t v : State),
      s.kept.underWay = before ++ (q, .curve i c) :: mid ++ (p, .curve i d) :: after →
      (s.kept.underWay.map Prod.fst).Nodup → (s.port p).isBusy = true → (s.port q).isBusy = true → i < 16 →
      exec (.executionEnd p) s = .next t → exec (.executionEnd q) t = .next v → v.kept.curves.getD i none = d) ∧
    ∀ f : Frame, f.port = p → s.press.phase = .running →
      ((∀ r b, (s.port p).cmd ≠ .busy r b) →
        exec (.portReset f) s =
          .next (s.modPort p
            (fun c => { c with cmd := .idle, dropped := false, notices := 0, test := false, out := [0] }))) ∧
      ∀ r b, (s.port p).cmd = .busy r b →
        exec (.portReset f) s = .next (s.modPort p (fun c => { c with cmd := .busy r true, out := [0] }))

/-! ### Requests common to all ports -/

/-- R16: IDENTIFY, on every port and in every device state, reports the figures of the part and the configuration, and
changes no state; in UNCONFIGURED, where no unit is configured, it reports N = 0 in seven words. -/
def Obligations.IdentifyReportsTheFigures : Prop :=
  ∀ (s : State) (f : Frame) (p : Port), Free s p → Carries f p [] →
    exec (.identify f) s =
        .next (answers f 1 .ok ([2102, 1, 8, 36, 16, 24, num s.nz.length] ++ s.nz.map num) s) ∧
      (DeviceOk s → s.device = .unconfigured →
        exec (.identify f) s = .next (answers f 1 .ok [2102, 1, 8, 36, 16, 24, 0] s))

/-- R182: READ STATUS, on every port and in every device state, reports nine words as they stand and changes no state;
in UNCONFIGURED the moving count is 0. -/
def Obligations.ReadStatusReportsNineWords : Prop :=
  ∀ (s : State) (f : Frame) (p : Port), Free s p → Carries f p [] →
    exec (.readStatus f) s =
        .next (answers f 2 .ok
          [num (deviceNumber s.device), upperWord s.press.sheets, lowerWord s.press.sheets,
            flag s.press.impression.filtered, flag s.press.freeze.filtered, flag s.hold,
            num (supplyNumber s.supply.state), num (s.zones.countP (fun r => r.state == .moving)),
            num s.limits.budget] s) ∧
      (DeviceOk s → s.device = .unconfigured → s.zones.countP (fun r => r.state == .moving) = 0)

/-- R183, R5: READ ZONES reports u, f, n and the readout record of each zone from f to f + n − 1 in ascending order, 12
words each, and changes no state; an invalid range is refused with BAD_PARAM. -/
def Obligations.ReadZonesReportsTheRange : Prop :=
  ∀ (s : State) (fr : Frame) (p : Port) (u f n : Word), Free s p → Carries fr p [u, f, n] →
    s.device ≠ .unconfigured → RecordsOk s →
    let valid := 1 ≤ u.toNat ∧ u.toNat ≤ s.nz.length ∧ 1 ≤ f.toNat ∧ 1 ≤ n.toNat ∧
      f.toNat + n.toNat - 1 ≤ s.zonesOf u.toNat
    (valid → ∃ records : List ZoneRec,
      (∀ i < n.toNat, ∃ r, records[i]? = some r ∧ s.zone? u.toNat (f.toNat + i) = some r) ∧
      records.length = n.toNat ∧
      exec (.readZones fr) s = .next (answers fr 3 .ok ([u, f, n] ++ records.flatMap readoutRecord) s) ∧
      ([u, f, n] ++ records.flatMap readoutRecord).length = 3 + 12 * n.toNat) ∧
    (¬ valid → exec (.readZones fr) s = .next (answers fr 3 .badParam [] s))

/-- The zone readout record, bit by bit (11_command_ports_and_notices.md, R183): for a record whose fields lie in the
ranges of R6, every field stands in its bits, and an absent one is 0 with its presence bit clear. -/
def Obligations.ReadoutRecordHoldsEveryField : Prop :=
  ∀ r : ZoneRec, r.unit ≤ 8 → r.zone ≤ 36 → r.retries ≤ 2 → r.failures ≤ 3 → r.echoWidth.getD 0 ≤ 8191 →
    ∃ w1 w2 w10 : Word,
      readoutRecord r =
        [w1, w2, num (r.coverage.getD 0), num (r.effective.getD 0), num (r.base.getD 0), num (r.target.getD 0),
          BitVec.ofInt 16 r.consoleTrim, BitVec.ofInt 16 r.loopTrim, num (r.measured.getD 0), w10,
          upperWord (r.settleStamp.getD 0), lowerWord (r.settleStamp.getD 0)] ∧
      (w1.extractLsb' 12 4).toNat = r.unit ∧ (w1.extractLsb' 6 6).toNat = r.zone ∧
      (w1.extractLsb' 2 4).toNat = keyNumber r.state ∧
      (w1.extractLsb' 0 2).toNat =
        (match r.faultCause with
          | none => 0
          | some .stall => 1
          | some .timeout => 2
          | some .line => 3) ∧
      w2.getLsbD 15 = r.coverage.isSome ∧ w2.getLsbD 14 = r.effective.isSome ∧ w2.getLsbD 13 = r.base.isSome ∧
      w2.getLsbD 12 = r.target.isSome ∧ w2.getLsbD 11 = r.measured.isSome ∧ w2.getLsbD 10 = r.echoWidth.isSome ∧
      w2.getLsbD 9 = r.settleStamp.isSome ∧ w2.getLsbD 8 = r.limit ∧ w2.getLsbD 7 = r.loopHold ∧
      w2.getLsbD 6 = r.stale ∧ (w2.extractLsb' 4 2).toNat = r.retries ∧ w2.getLsbD 0 = r.halts.freeze ∧
      w2.getLsbD 1 = r.halts.timeout ∧ w2.getLsbD 2 = r.halts.disable ∧ w2.getLsbD 3 = r.halts.survey ∧
      (w10.extractLsb' 14 2).toNat = r.failures ∧ (w10.extractLsb' 0 13).toNat = r.echoWidth.getD 0

/-- R52: READ JOB reports the device, the active job, the preset tracking flag, the zones not SETTLED, the staged slot,
and the parameters of the used units and of the listed units in their orders; it changes no state. -/
def Obligations.ReadJobReportsBothJobs : Prop :=
  ∀ (s : State) (f : Frame) (p : Port), Free s p → Carries f p [] → s.device ≠ .unconfigured → JobOk s →
    let parameters (q : UnitParams) : List Word :=
      [num q.curve, num q.sweep, num q.s1, num q.s2, num q.first, num q.last]
    let record (records : List UnitParams) (u : Nat) : Option UnitParams := records.find? (fun q => q.unit == u)
    let active : List Word := match s.job with
      | none => []
      | some j => j.units.flatMap (fun u => num u :: (record j.records u).elim [] parameters)
    let staged (c : Stage) : List Word :=
      c.units.flatMap (fun u => num u :: (record c.records u).elim (List.replicate 7 0) (fun q => 1 :: parameters q))
    let head (cause : Nat) (jobNo total received clamped units : Nat) : List Word :=
      [num (deviceNumber s.device), num (s.job.elim 0 ActiveJob.jobNo), flag s.preset,
        num (s.zones.countP (fun r => r.state != .settled)), num (slotNumber s.slot), num cause, num jobNo, num total,
        num received, num clamped, num (s.job.elim 0 (fun j => j.units.length)), num units]
    exec (.readJob f) s = .next (answers f 4 .ok
      (match s.slot with
        | .empty => head 0 0 0 0 0 0 ++ active
        | .opened c | .complete c =>
          head 0 c.jobNo c.expected c.stream.length c.clamped c.units.length ++ active ++ staged c
        | .failed c cause =>
          head (match cause with
              | .oversize => 1
              | .short => 2
              | .incomplete => 3) c.jobNo c.expected c.stream.length c.clamped c.units.length ++ active ++ staged c) s)

/-- R28: READ CURVE reports the slot, its active and staged uses and its content, and changes no state; a curve id above
15 is refused. -/
def Obligations.ReadCurveReportsTheSlot : Prop :=
  ∀ (s : State) (f : Frame) (p : Port) (k : Word), Free s p → Carries f p [k] →
    let uses : List Word :=
      [num (match s.job with
        | none => 0
        | some j => j.records.countP (fun q => q.curve == k.toNat)),
      num (match s.slot with
        | .empty => 0
        | .opened c | .complete c | .failed c _ => c.records.countP (fun q => q.curve == k.toNat))]
    (15 < k.toNat → exec (.readCurve f) s = .next (answers f 5 .badParam [1, 0] s)) ∧
    (k.toNat ≤ 15 → s.curve? k.toNat = none → exec (.readCurve f) s = .next (answers f 5 .ok ([k, 0] ++ uses) s)) ∧
    ∀ c, k.toNat ≤ 15 → s.curve? k.toNat = some c →
      exec (.readCurve f) s = .next (answers f 5 .ok
        ([k, 1] ++ uses ++ [num c.fref, num c.points.length] ++ c.points.flatMap (fun q => [num q.x, num q.y])) s)

/-- R184 to R186: a posting adds its kind to the sets of the ports of the routing table and changes nothing else; SET
MASK replaces the mask of its own port; ACK NOTICES removes the kinds it names from its own port's set, and is refused
while the test-posting switch is on; a word with any of bits 8 to 15 set is refused first; and a port's attention line
is asserted exactly while its set and its mask have a kind in common. -/
def Obligations.NoticesMasksAndAttention : Prop :=
  (∀ (s : State) (k : Notice) (p : Port),
    let routed : Notice → Nat × List Port
      | .stageDone => (0, [.job, .console]) | .stageFailed => (1, [.job]) | .jobTaken => (2, [.console, .job, .loop])
      | .presetDone => (3, [.console, .loop]) | .keyAlert => (4, [.console, .loop]) | .surveyDone => (5, [.console])
      | .supplyAlert => (6, [.console]) | .freezeChange => (7, [.console, .loop])
    s.post k = { s with ports := (s.post k).ports } ∧
      (s.post k).port p =
        if p ∈ (routed k).2 then { s.port p with notices := (s.port p).notices ||| 1#8 <<< (routed k).1 }
        else s.port p) ∧
  (∀ c : PortCtl, c.attention = true ↔ ∃ i < 8, c.notices.getLsbD i = true ∧ c.mask.getLsbD i = true) ∧
  ∀ (s : State) (f : Frame) (p : Port) (w : Word), Free s p → Carries f p [w] →
    (256 ≤ w.toNat → exec (.setMask f) s = .next (answers f 6 .badParam [] s) ∧
      exec (.ackNotices f) s = .next (answers f 7 .badParam [] s)) ∧
    (w.toNat < 256 →
      exec (.setMask f) s =
        .next (answers f 6 .ok [num (s.port p).mask.toNat, num (s.port p).notices.toNat]
          (s.modPort p (fun c => { c with mask := w.setWidth 8 })))) ∧
    (w.toNat < 256 → (s.port p).test = true → exec (.ackNotices f) s = .next (answers f 7 .testActive [] s)) ∧
    (w.toNat < 256 → (s.port p).test = false →
      exec (.ackNotices f) s =
        .next (answers f 7 .ok [num ((s.port p).notices &&& ~~~(w.setWidth 8)).toNat]
          (s.modPort p (fun c => { c with notices := c.notices &&& ~~~(w.setWidth 8) }))))

/-- R187: SET TEST POSTING sets the switch of the named port; TEST NOTICE posts the named kinds to the named port while
its switch is on, whatever the routing table gives; the checks in their order. -/
def Obligations.TestPostingIsGatedByTheSwitch : Prop :=
  ∀ (s : State) (f : Frame) (code w : Word), Free s .console → Carries f .console [code, w] →
    let named (p : Port) : Prop := code.toNat = (match p with
      | .console => 1
      | .job => 2
      | .loop => 3)
    ((code.toNat < 1 ∨ 3 < code.toNat) → exec (.setTestPosting f) s = .next (answers f 46 .badParam [] s) ∧
      exec (.testNotice f) s = .next (answers f 47 .badParam [] s)) ∧
    ∀ p, named p →
      (1 < w.toNat → exec (.setTestPosting f) s = .next (answers f 46 .badParam [] s)) ∧
      (w.toNat ≤ 1 →
        exec (.setTestPosting f) s =
          .next (answers f 46 .ok [flag (s.port p).test] (s.modPort p (fun c => { c with test := w == 1 })))) ∧
      (256 ≤ w.toNat → exec (.testNotice f) s = .next (answers f 47 .badParam [] s)) ∧
      (w.toNat < 256 → (s.port p).test = false → exec (.testNotice f) s = .next (answers f 47 .testOff [] s)) ∧
      (w.toNat < 256 → (s.port p).test = true →
        exec (.testNotice f) s =
          .next (answers f 47 .ok [num ((s.port p).notices ||| w.setWidth 8).toNat]
            (s.modPort p (fun c => { c with notices := c.notices ||| w.setWidth 8 }))))

/-! ### Configuration and resets -/

/-- R3, R4: the checks of CONFIGURE in their order; an accepted one creates one UNKNOWN record for each pair (u, z) in
ascending order, empty queues and no halt marks, and leaves everything else as it stands. -/
def Obligations.ConfigureCreatesTheZoneTable : Prop :=
  ∀ (s : State) (f : Frame) (n : Word) (ks : List Word), Free s .console → Carries f .console (n :: ks) →
    ks.length = n.toNat →
    (s.device ≠ .unconfigured → exec (.configure f) s = .next (answers f 16 .wrongState [] s)) ∧
    (s.device = .unconfigured → (n.toNat < 1 ∨ 8 < n.toNat ∨ ∃ k ∈ ks, k.toNat < 12 ∨ 36 < k.toNat) →
      exec (.configure f) s = .next (answers f 16 .badParam [] s)) ∧
    (s.device = .unconfigured → 1 ≤ n.toNat → n.toNat ≤ 8 → (∀ k ∈ ks, 12 ≤ k.toNat ∧ k.toNat ≤ 36) →
      ∃ t, exec (.configure f) s = .next (answers f 16 .ok [num (ks.map BitVec.toNat).sum] t) ∧
        t = { s with
          device := .configured, nz := ks.map BitVec.toNat, zones := t.zones, queues := Vector.replicate 8 []
          lines := s.lines.map (fun l => { l with haltMark := none }) } ∧
        t.zones.length = (ks.map BitVec.toNat).sum ∧
        t.zones.Pairwise (fun a b => a.unit < b.unit ∨ a.unit = b.unit ∧ a.zone < b.zone) ∧
        (∀ r ∈ t.zones, r = ZoneRec.created r.unit r.zone) ∧
        ∀ u z, (t.zone? u z).isSome ↔ 1 ≤ u ∧ 1 ≤ z ∧ ∃ k, ks[u - 1]? = some k ∧ z ≤ k.toNat)

/-- R172, R174: a fall of the RESET line puts the part in reset at once from every phase but START-UP, a rise in HELD
ends the reset, and DEVICE RESET does both in its execution and leaves no result record (one step: log 8). R15, R31:
both keep the Curve Table and the Key Calibration Table as the executions that have ended left them: with none under
way, as they stand; a request taken by a port and not yet executed to its end, on whatever port and beside whatever
others, changes nothing of what a reset keeps (log 7). Every step keeps that account: the tables hold what is kept with
what is under way written over it in the order of execution. -/
def Obligations.ResetsKeepTheTwoTables : Prop :=
  let keeps (s t : State) : Prop :=
    ResetLeaves s t ∧ t.cal = s.kept.cal ∧ t.curves = s.kept.curves ∧ t.kept = ⟨t.cal, t.curves, []⟩ ∧
      (KeptOk s → openWrites s = [] → SameTables s t)
  (∀ s : State, s.press.resetPin = true → s.press.phase ≠ .startUp →
    ∃ t, exec .resetLineFall s = .next t ∧ keeps s t ∧ t.press.phase = .held ∧ t.press.resetPin = false) ∧
  (∀ s : State, s.press.resetPin = false → s.press.phase = .held → exec .resetLineRise s = .next (resetEnds s true)) ∧
  (∀ (s : State) (f : Frame), Free s .console → Carries f .console [] →
    ∃ t, exec (.deviceReset f) s = .next t ∧ keeps s t ∧ t = resetEnds t s.press.resetPin) ∧
  (∀ (s t : State) (q : Req) (f : Frame), q ≠ .deviceReset → exec (command q f) s = .next t →
    t.kept.cal = s.kept.cal ∧ t.kept.curves = s.kept.curves ∧
      (q ≠ .defineCurve → q ≠ .deleteCurve → q ≠ .setKeyCal → t.kept = s.kept)) ∧
  (∀ (s t v : State) (q : Req) (f : Frame), KeptOk s → openWrites s = [] → Free s f.port → q ≠ .deviceReset →
    exec (command q f) s = .next t →
    (s.press.resetPin = true → exec .resetLineFall t = .next v → SameTables s v) ∧
    ∀ d, f.port ≠ .console → Free t .console → Carries d .console [] → exec (.deviceReset d) t = .next v →
      SameTables s v) ∧
  ∀ s t : State, KeptOk s → step s = .next t → KeptOk t

/-- R172, R173: POWER ON clears both tables and enters START-UP; after the start-up interval of 50 ms the reset ends
when RESET is high and the phase becomes HELD when it is low; RESET in START-UP moves the pin alone (log 28); after 1 ms
of ANSWER DELAY the part is RUNNING, and a filter whose raw level differs begins a pending change (R158, R169). An
interval not yet over changes nothing (log 5). -/
def Obligations.PowerOnStartsThePartUp : Prop :=
  (∀ s : State, ∃ t, exec .powerOn s = .next t ∧ ResetLeaves s t ∧ (∀ u z, t.calEntry u z = ⟨500, 410⟩) ∧
    (∀ k, t.curve? k = none) ∧ t.kept = ⟨t.cal, t.curves, []⟩ ∧ t.press.phase = .startUp ∧
    t.press.resetPin = s.press.resetPin ∧ t.clock.phaseUs = 0) ∧
  (∀ s : State, s.press.phase = .startUp →
    (50000 ≤ s.clock.phaseUs → s.press.resetPin = true → exec .startUpIntervalEnd s = .next (resetEnds s true)) ∧
    (50000 ≤ s.clock.phaseUs → s.press.resetPin = false →
      exec .startUpIntervalEnd s =
        .next { s with press := { s.press with phase := .held }, clock := { s.clock with phaseUs := 0 } }) ∧
    (s.clock.phaseUs < 50000 → exec .startUpIntervalEnd s = .next s) ∧
    exec .resetLineFall s = .next { s with press := { s.press with resetPin := false } } ∧
    exec .resetLineRise s = .next { s with press := { s.press with resetPin := true } }) ∧
  ∀ s : State, s.press.phase = .answerDelay →
    let begun (l : Level) : Level := if l.raw = l.filtered then l else { l with pending := some ⟨l.raw, s.clock.now⟩ }
    (1000 ≤ s.clock.phaseUs →
      exec .answerDelayEnd s = .next { s with
        clock := { s.clock with phaseUs := 0 }
        supply := { s.supply with ok := begun s.supply.ok }
        press := { s.press with
          impression := begun s.press.impression, freeze := begun s.press.freeze, phase := .running } }) ∧
    (s.clock.phaseUs < 1000 → exec .answerDelayEnd s = .next s)

/-! ### Curves -/

/-- R21 to R25 (an accepted request's write is under way until the execution ends: log 7): DEFINE CURVE is
refused with the first check of R22 that fails and its index, then with CURVE_IN_USE for a slot the active job names,
and otherwise replaces the whole slot; DELETE CURVE likewise empties it. -/
def Obligations.CurveRequestsAreJudgedInOrder : Prop :=
  ∀ (s : State) (f : Frame) (p : Port), Free s p → p = .console ∨ p = .job →
  (∀ (k fref n : Word) (ps : List (Word × Word)), Carries f p (k :: fref :: n :: ps.flatMap (fun q => [q.1, q.2])) →
    ps.length = n.toNat →
    let pts := breakpoints ps
    let refused (check index : Nat) : Prop :=
      exec (.defineCurve f) s = .next (answers f 24 .badParam [num check, num index] s)
    let passes12 : Prop := k.toNat ≤ 15 ∧ 10 ≤ fref.toNat ∧ fref.toNat ≤ 100 ∧ 2 ≤ n.toNat ∧ n.toNat ≤ 12
    let passes45 : Prop := passes12 ∧ pts.head?.map Breakpoint.x = some 0 ∧ pts.getLast?.map Breakpoint.x = some 1000
    let ascends (i : Nat) : Prop := ∀ a b, pts[i]? = some a → pts[i + 1]? = some b → a.x < b.x
    let rises (i : Nat) : Prop := ∀ a b, pts[i]? = some a → pts[i + 1]? = some b → a.y ≤ b.y
    let low (i : Nat) : Prop := ∀ a, pts[i]? = some a → a.y ≤ 500
    (15 < k.toNat → refused 1 0) ∧
    (k.toNat ≤ 15 → (fref.toNat < 10 ∨ 100 < fref.toNat) → refused 2 0) ∧
    (k.toNat ≤ 15 → 10 ≤ fref.toNat → fref.toNat ≤ 100 → (n.toNat < 2 ∨ 12 < n.toNat) → refused 3 0) ∧
    (passes12 → pts.head?.map Breakpoint.x ≠ some 0 → refused 4 1) ∧
    (passes12 → pts.head?.map Breakpoint.x = some 0 → pts.getLast?.map Breakpoint.x ≠ some 1000 → refused 5 n.toNat) ∧
    (∀ i, passes45 → ¬ ascends i → (∀ j < i, ascends j) → refused 6 (i + 2)) ∧
    (∀ i, passes45 → (∀ j, ascends j) → ¬ low i → (∀ j < i, low j) → refused 7 (i + 1)) ∧
    (∀ i, passes45 → (∀ j, ascends j) → (∀ j, low j) → ¬ rises i → (∀ j < i, rises j) → refused 8 (i + 2)) ∧
    (passes45 → (∀ j, ascends j ∧ low j ∧ rises j) →
      (s.activeUses k.toNat ≠ 0 →
        exec (.defineCurve f) s = .next (answers f 24 .curveInUse [num (s.activeUses k.toNat)] s)) ∧
      (s.activeUses k.toNat = 0 →
        exec (.defineCurve f) s =
          .next (answersWith (some (.curve k.toNat (some ⟨fref.toNat, pts⟩))) f 24 .ok
            [k, flag (s.curve? k.toNat).isSome, num (s.stagedUses k.toNat)]
            { s with curves := s.curves.setIfInBounds k.toNat (some ⟨fref.toNat, pts⟩) })))) ∧
  ∀ k : Word, Carries f p [k] →
    (15 < k.toNat → exec (.deleteCurve f) s = .next (answers f 25 .badParam [1, 0] s)) ∧
    (k.toNat ≤ 15 → s.activeUses k.toNat ≠ 0 →
      exec (.deleteCurve f) s = .next (answers f 25 .curveInUse [num (s.activeUses k.toNat)] s)) ∧
    (k.toNat ≤ 15 → s.activeUses k.toNat = 0 →
      exec (.deleteCurve f) s =
        .next (answersWith (some (.curve k.toNat none)) f 25 .ok
          [k, flag (s.curve? k.toNat).isSome, num (s.stagedUses k.toNat)]
          { s with curves := s.curves.setIfInBounds k.toNat none }))

/-! ### Staging -/

/-- R35, R36: the checks of BEGIN STAGE in their order, and the slot it opens afresh; everything else as it stands. -/
def Obligations.BeginStageOpensTheSlot : Prop :=
  ∀ (s : State) (f : Frame) (no m : Word) (us : List Word), Free s .job → Carries f .job (no :: m :: us) →
    us.length = m.toNat → s.device ≠ .unconfigured →
    let units := us.map BitVec.toNat
    let refused (check : Nat) : Prop := exec (.beginStage f) s = .next (answers f 48 .badParam [num check] s)
    let configured (u : Nat) : Prop := 1 ≤ u ∧ u ≤ s.nz.length
    (∀ c, s.slot = .opened c → exec (.beginStage f) s = .next (answers f 48 .stageOpen [num c.jobNo] s)) ∧
    (¬ isOpen s → no = 0 → refused 2) ∧
    (¬ isOpen s → no ≠ 0 → (m.toNat < 1 ∨ 8 < m.toNat) → refused 3) ∧
    (¬ isOpen s → no ≠ 0 → 1 ≤ m.toNat → m.toNat ≤ 8 → (∃ u ∈ units, ¬ configured u) → refused 4) ∧
    (¬ isOpen s → no ≠ 0 → 1 ≤ m.toNat → m.toNat ≤ 8 → (∀ u ∈ units, configured u) → ¬ units.Nodup → refused 5) ∧
    (¬ isOpen s → no ≠ 0 → 1 ≤ m.toNat → m.toNat ≤ 8 → (∀ u ∈ units, configured u) → units.Nodup →
      exec (.beginStage f) s =
        .next (answers f 48 .ok [num (units.map s.zonesOf).sum, flag (s.slot != .empty)]
          { s with slot := .opened ⟨no.toNat, units, (units.map s.zonesOf).sum, [], 0, []⟩ }))

/-- R37: the operands of STAGE UNIT in their order, and the unit record it writes or replaces, the other records in
their places; everything else as it stands. -/
def Obligations.StageUnitRecordsTheParameters : Prop :=
  ∀ (s : State) (f : Frame) (u k sweep s1 s2 first last : Word), Free s .job →
    Carries f .job [u, k, sweep, s1, s2, first, last] → s.device ≠ .unconfigured →
    (¬ isOpen s → exec (.stageUnit f) s = .next (answers f 49 .noStage [] s)) ∧
    ∀ c, s.slot = .opened c →
      let refused (operand : Nat) : Prop := exec (.stageUnit f) s = .next (answers f 49 .badParam [num operand] s)
      let nz := s.zonesOf u.toNat
      let p : UnitParams :=
        ⟨u.toNat, k.toNat, sweep.toNat, s1.toNat, s2.toNat, first.toNat, last.toNat⟩
      let ok (i : Nat) : Prop := match i with
        | 1 => u.toNat ∈ c.units
        | 2 => k.toNat ≤ 15
        | 3 => 10 ≤ sweep.toNat ∧ sweep.toNat ≤ 100
        | 4 => s1.toNat ≤ 16
        | 5 => s2.toNat ≤ 8
        | 6 => 1 ≤ first.toNat ∧ first.toNat ≤ nz
        | 7 => first.toNat ≤ last.toNat ∧ last.toNat ≤ nz
        | _ => True
      (∀ i, 1 ≤ i → i ≤ 7 → ¬ ok i → (∀ j, 1 ≤ j → j < i → ok j) → refused i) ∧
      ((∀ i, 1 ≤ i → i ≤ 7 → ok i) →
        ((∃ q ∈ c.records, q.unit = u.toNat) →
          exec (.stageUnit f) s =
            .next (answers f 49 .ok [1]
              { s with
                slot := .opened { c with records := c.records.map (fun q => if q.unit = u.toNat then p else q) } })) ∧
        ((∀ q ∈ c.records, q.unit ≠ u.toNat) →
          exec (.stageUnit f) s =
            .next (answers f 49 .ok [0] { s with slot := .opened { c with records := c.records ++ [p] } })))

/-- R39, R40: STAGE DATA appends the values that fit, each above 1000 as 1000 and counted; a run that overruns the
stream fills it, fails the slot with OVERSIZE and posts STAGE_FAILED to the Job Port. -/
def Obligations.StageDataFillsTheStream : Prop :=
  ∀ (s : State) (f : Frame) (n : Word) (ws : List Word), Free s .job → Carries f .job (n :: ws) →
    ws.length = n.toNat → s.device ≠ .unconfigured →
    (¬ isOpen s → exec (.stageData f) s = .next (answers f 50 .noStage [] s)) ∧
    ∀ c, s.slot = .opened c → c.stream.length ≤ c.expected →
      let left := c.expected - c.stream.length
      let stored (vs : List Word) : Stage :=
        { c with
          stream := c.stream ++ vs.map (fun w => min w.toNat 1000)
          clamped := c.clamped + vs.countP (fun w => 1000 < w.toNat) }
      ((n.toNat < 1 ∨ 64 < n.toNat) → exec (.stageData f) s = .next (answers f 50 .badParam [] s)) ∧
      (1 ≤ n.toNat → n.toNat ≤ 64 → n.toNat ≤ left →
        exec (.stageData f) s =
          .next (answers f 50 .ok
            [num (c.stream.length + n.toNat), num (ws.countP (fun w => 1000 < w.toNat)), num (left - n.toNat)]
            { s with slot := .opened (stored ws) })) ∧
      (1 ≤ n.toNat → n.toNat ≤ 64 → left < n.toNat →
        exec (.stageData f) s =
          .next (answers f 50 .badParam
            [num left, num ((ws.take left).countP (fun w => 1000 < w.toNat)), num (n.toNat - left)]
            ({ s with slot := .failed (stored (ws.take left)) .oversize }.modPort .job
              (fun q => { q with notices := q.notices ||| 2 }))))

/-- R41, R42: END STAGE closes an OPEN slot by the first case that applies, with the notice of R34; DISCARD STAGE, on
the Job and the Console Port, empties the slot in every state and posts nothing. -/
def Obligations.StageIsClosedOrDiscarded : Prop :=
  (∀ (s : State) (f : Frame), Free s .job → Carries f .job [] → s.device ≠ .unconfigured →
    (¬ isOpen s → exec (.endStage f) s = .next (answers f 51 .noStage [] s)) ∧
    ∀ c, s.slot = .opened c →
      let missing := c.units.countP (fun u => c.records.all (fun q => q.unit != u))
      let failed (cause : StageCause) : State :=
        { s with slot := .failed c cause }.modPort .job (fun q => { q with notices := q.notices ||| 2 })
      (c.stream.length < c.expected →
        exec (.endStage f) s =
          .next (answers f 51 .ok [3, 2, num c.stream.length, num missing] (failed .short))) ∧
      (c.expected ≤ c.stream.length → missing ≠ 0 →
        exec (.endStage f) s =
          .next (answers f 51 .ok [3, 3, num c.stream.length, num missing] (failed .incomplete))) ∧
      (c.expected ≤ c.stream.length → missing = 0 →
        exec (.endStage f) s =
          .next (answers f 51 .ok [2, 0, num c.stream.length, 0]
            (({ s with slot := .complete c }.modPort .job (fun q => { q with notices := q.notices ||| 1 })).modPort .console
              (fun q => { q with notices := q.notices ||| 1 }))))) ∧
  ∀ (s : State) (f : Frame) (p : Port), Free s p → p = .console ∨ p = .job → Carries f p [] →
    s.device ≠ .unconfigured →
    exec (.discardStage f) s =
      .next (answers f 21 .ok
        [num (slotNumber s.slot), num (match s.slot with
          | .empty => 0
          | .opened c | .complete c | .failed c _ => c.jobNo)] { s with slot := .empty })

/-! ### Jobs -/

/-- R45 to R47: TAKE JOB is refused with NOT_READY and with CURVE_MISSING in that order; an accepted one makes the
staged job active, empties the slot, sets the preset tracking flag, sets both trims to 0 and the coverage from the
stream, and computes every target with these inputs; it posts JOB_TAKEN to every port and hands one batch of the zones
whose target changed. Everything else stands as it was. -/
def Obligations.TakeJobMakesTheStagedJobActive : Prop :=
  ∀ (s : State) (f : Frame), Free s .console → Carries f .console [] → s.device ≠ .unconfigured → RecordsOk s → SlotOk s →
    (completed s.slot = none → exec (.takeJob f) s = .next (answers f 18 .notReady [num (slotNumber s.slot)] s)) ∧
    ∀ c, s.slot = .complete c →
      let undefined := c.records.filter (fun p => (s.curve? p.curve).isNone)
      (∀ k, (∃ p ∈ undefined, p.curve = k) → (∀ p ∈ undefined, k ≤ p.curve) →
        exec (.takeJob f) s = .next (answers f 18 .curveMissing [num k, num undefined.length] s)) ∧
      (undefined = [] → ∃ t : State,
        t = { s with
          job := some ⟨c.jobNo, c.units, c.records⟩, slot := .empty, device := .jobActive, preset := true
          zones := t.zones } ∧
        List.Forall₂ (fun r r' =>
          OnlySetPoint { r with consoleTrim := 0, loopTrim := 0 } r' ∧
            r'.coverage = (if r.unit ∈ c.units then c.stream[streamPlace s c.units r.unit r.zone]? else none) ∧
            r'.target.isSome ∧ setPoint t ⟨c.jobNo, c.units, c.records⟩ r' = r') s.zones t.zones ∧
        exec (.takeJob f) s =
          .next (answers f 18 .ok
            [num c.jobNo, num (s.job.elim 0 ActiveJob.jobNo), num (changedZones s.zones t.zones).length]
            ((t.post .jobTaken).handBatch (changedZones s.zones t.zones))))

/-- R48: END JOB removes the active job, makes the set-point fields absent and clears the limit flags, keeps trims and
loop holds, clears the preset tracking flag without PRESET_DONE, and hands every zone in one batch; without a job it is
refused with NO_JOB. -/
def Obligations.EndJobRemovesTheTargets : Prop :=
  ∀ (s : State) (f : Frame), Free s .console → Carries f .console [] → s.device ≠ .unconfigured →
    (s.job = none → exec (.endJob f) s = .next (answers f 19 .noJob [] s)) ∧
    ∀ j, s.job = some j →
      let t : State := { s with
        job := none, device := .configured, preset := false
        zones := s.zones.map (fun r =>
          { r with coverage := none, effective := none, base := none, target := none, limit := false }) }
      exec (.endJob f) s =
        .next (answers f 19 .ok [num j.jobNo] (t.handBatch (s.zones.map (fun r => (r.unit, r.zone)))))

/-- R49: SET SWEEP, its checks in their order, replaces the unit's sweep in the active job, recomputes every zone of the
unit and hands the zones whose target changed. -/
def Obligations.SetSweepRecomputesTheUnit : Prop :=
  ∀ (s : State) (f : Frame) (u sweep : Word), Free s .console → Carries f .console [u, sweep] →
    s.device ≠ .unconfigured → JobOk s →
    let configured := 1 ≤ u.toNat ∧ u.toNat ≤ s.nz.length
    let inRange := 10 ≤ sweep.toNat ∧ sweep.toNat ≤ 100
    (¬ (configured ∧ inRange) → exec (.setSweep f) s = .next (answers f 20 .badParam [] s)) ∧
    (configured → inRange → (∀ j, s.job = some j → u.toNat ∉ j.units) →
      exec (.setSweep f) s = .next (answers f 20 .noJob [] s)) ∧
    ∀ j p, configured → inRange → s.job = some j → p ∈ j.records → p.unit = u.toNat →
      ∃ (j' : ActiveJob) (t : State),
        j' = { j with records :=
          j.records.map (fun q => if q.unit = u.toNat then { q with sweep := sweep.toNat } else q) } ∧
        t = { s with job := some j', zones := t.zones } ∧
        List.Forall₂ (fun r r' =>
          if r.unit = u.toNat then OnlySetPoint r r' ∧ r'.coverage = r.coverage ∧ setPoint t j' r' = r' else r' = r)
          s.zones t.zones ∧
        exec (.setSweep f) s =
          .next (answers f 20 .ok [num p.sweep, num (changedZones s.zones t.zones).length]
            (t.handBatch (changedZones s.zones t.zones)))

/-! ### The set-point chain -/

/-- R59, R60: the effective coverage of an open zone is the weighted mean of five values, each neighbour's own coverage
or the zone's in its stead, rounded half up; it lies between the least and the greatest of them, and the record takes
it. -/
def Obligations.SpreadIsAMeanOfItsValues : Prop :=
  ∀ (s : State) (j : ActiveJob) (r : ZoneRec) (p : UnitParams) (c : Nat),
    j.record? r.unit = some p → p.s1 ≤ 16 → p.s2 ≤ 8 → 1 ≤ p.first → p.first ≤ r.zone → r.zone ≤ p.last →
    r.coverage = some c →
    let v := neighbour s p r.unit r.zone c
    let w0 := 64 - 2 * p.s1 - 2 * p.s2
    let e := roundHalfUp (w0 * c + p.s1 * (v (-1) + v 1) + p.s2 * (v (-2) + v 2)) 64
    (setPoint s j r).effective = some e ∧ w0 + 2 * p.s1 + 2 * p.s2 = 64 ∧ 16 ≤ w0 ∧
      (∀ lo hi, (∀ x ∈ [c, v (-2), v (-1), v 1, v 2], lo ≤ x ∧ x ≤ hi) → lo ≤ e ∧ e ≤ hi) ∧
      (p.s1 = 0 → p.s2 = 0 → e = c) ∧ (p.first = p.last → e = c)

/-- R61, R62: on a well-formed list, e at a breakpoint gives its opening, e strictly inside the one segment that holds
it is interpolated, rounded half up; the opening lies between those of the segment and never above 500. -/
def Obligations.CurveStageInterpolates : Prop :=
  ∀ (c : Curve) (e : Nat), CurveOk c → e ≤ 1000 →
    let b := curveOpening c.points e
    (∀ q ∈ c.points, q.x = e → b = q.y) ∧
    (∀ i lo hi, c.points[i]? = some lo → c.points[i + 1]? = some hi → lo.x < e → e < hi.x →
      b = lo.y + roundHalfUp ((e - lo.x) * (hi.y - lo.y)) (hi.x - lo.x) ∧ lo.y ≤ b ∧ b ≤ hi.y ∧
        (lo.y < hi.y → (e - lo.x) * (hi.y - lo.y) < (hi.x - lo.x) * (hi.y - lo.y)) ∧ (lo.y = hi.y → b = lo.y)) ∧
    ((∀ q ∈ c.points, q.x ≠ e) →
      ∃! i, ∃ lo hi, c.points[i]? = some lo ∧ c.points[i + 1]? = some hi ∧ lo.x < e ∧ e < hi.x) ∧
    b ≤ 500

/-- R58, R63, R64: the set-point fields of a zone of an unused unit, of a closed zone and of an open zone; a base
opening lies in 0 to 5000 and a target in 0 to 500 while curves, sweeps and coverages lie in their ranges. -/
def Obligations.SetPointFieldsByTheWidthStage : Prop :=
  ∀ (s : State) (j : ActiveJob) (r : ZoneRec),
    (j.record? r.unit = none →
      setPoint s j r =
        { r with coverage := none, effective := none, base := none, target := some 0, limit := false }) ∧
    ∀ p, j.record? r.unit = some p →
      ((r.zone < p.first ∨ p.last < r.zone) →
        setPoint s j r = { r with effective := r.coverage, base := some 0, target := some 0, limit := false }) ∧
      ∀ c curve e, p.first ≤ r.zone → r.zone ≤ p.last → r.coverage = some c → s.curve? p.curve = some curve →
        (setPoint s j r).effective = some e →
        let b := roundHalfUp (curveOpening curve.points e * curve.fref) p.sweep
        let t : Int := b + r.consoleTrim + r.loopTrim
        setPoint s j r =
            { r with
              effective := some e, base := some b
              target := some (if t < 0 then 0 else if 500 < t then 500 else t.toNat)
              limit := decide (t < 0 ∨ 500 < t) } ∧
          (CurveOk curve → e ≤ 1000 → UnitParamsOk p → b ≤ 5000)

/-- R57, R66 to R68: round half up is the nearest integer with a half going up, and round half away keeps the sign; a
MOVE's target ticks run from Z to at most 8191; an echo as wide as a target's ticks reads as that target; q is plausible
from −20 to 520 and clamped to 0 to 500. -/
def Obligations.ConversionsAreInverse : Prop :=
  (∀ n d : Nat, 0 < d → 2 * d * roundHalfUp n d ≤ 2 * n + d ∧ 2 * n + d < 2 * d * (roundHalfUp n d + 1)) ∧
  (∀ n d : Nat, 0 < d → roundHalfAway n d = roundHalfUp n d ∧ roundHalfAway (-n) d = -roundHalfUp n d) ∧
  (∀ (e : CalEntry) (t : Nat), CalOk e → t ≤ 500 →
    targetTicks e t = e.zero + roundHalfUp (t * 4096) e.gain ∧ e.zero ≤ targetTicks e t ∧ targetTicks e t ≤ 8191 ∧
      targetTicks e 0 = e.zero ∧ plausiblePosition (echoValue e (targetTicks e t)) = some t) ∧
  (∀ (e : CalEntry) (w : Nat), echoValue e w = roundHalfAway ((w - e.zero) * e.gain) 4096) ∧
  ∀ q : Int, plausiblePosition q =
    if q < -20 ∨ 520 < q then none else some (if q < 0 then 0 else if 500 < q then 500 else q.toNat)

/-! ### Trims and loop hold -/

/-- R76 to R79: SET and ADJUST CONSOLE TRIM write each value or sum clamped to ±100 and count the clamps; CLEAR TRIMS
sets the selected trims to 0; each recomputes the zones whose trims changed while a job is active, hands one batch, and
reports the counts; a bad count, run or selector is refused. -/
def Obligations.TrimRequestsWriteClampAndCount : Prop :=
  ∀ (s : State), Free s .console → s.device ≠ .unconfigured → RecordsOk s →
    (∀ (fr : Frame) (u f n : Word) (vs : List Word), Carries fr .console (u :: f :: n :: vs) → vs.length = n.toNat →
      let good := 1 ≤ n.toNat ∧ n.toNat ≤ 36 ∧ runValid s u.toNat f.toNat n.toNat
      let run := inRun u.toNat f.toNat n.toNat
      let value (r : ZoneRec) : Int := (runWord vs f.toNat r).toInt
      let total (r : ZoneRec) : Int := r.consoleTrim + value r
      let write (x : ZoneRec → Int) (r : ZoneRec) : ZoneRec :=
        if run r then { r with consoleTrim := within 100 (x r) } else r
      let clamps (x : ZoneRec → Int) : Word := num (s.zones.countP (fun r => run r && within 100 (x r) != x r))
      (¬ good → exec (.setConsoleTrim fr) s = .next (answers fr 32 .badParam [] s) ∧
        exec (.adjustConsoleTrim fr) s = .next (answers fr 33 .badParam [] s)) ∧
      (good →
        exec (.setConsoleTrim fr) s =
          .next (answers fr 32 .ok (clamps value :: trimCounts s (write value)) (trimmed s (write value))) ∧
        exec (.adjustConsoleTrim fr) s =
          .next (answers fr 33 .ok (clamps total :: trimCounts s (write total)) (trimmed s (write total))))) ∧
    ∀ (fr : Frame) (u which : Word), Carries fr .console [u, which] →
      let unitOk := u = 0 ∨ (1 ≤ u.toNat ∧ u.toNat ≤ s.nz.length)
      let whichOk := 1 ≤ which.toNat ∧ which.toNat ≤ 3
      let clear (r : ZoneRec) : ZoneRec :=
        if u = 0 ∨ r.unit = u.toNat then
          { r with
            consoleTrim := if which = 2 then r.consoleTrim else 0, loopTrim := if which = 1 then r.loopTrim else 0 }
        else r
      (¬ unitOk → exec (.clearTrims fr) s = .next (answers fr 34 .badParam [1] s)) ∧
      (unitOk → ¬ whichOk → exec (.clearTrims fr) s = .next (answers fr 34 .badParam [2] s)) ∧
      (unitOk → whichOk → exec (.clearTrims fr) s = .next (answers fr 34 .ok (trimCounts s clear) (trimmed s clear)))

/-- R80: SET LOOP HOLD writes the flags of its run, 1 set and 0 clear, and reports how many zones of the unit hold the
flag; the first flag word that is neither is refused with its place. Nothing else changes. -/
def Obligations.LoopHoldFlagsAreWritten : Prop :=
  ∀ (s : State) (fr : Frame) (u f n : Word) (ws : List Word), Free s .console →
    Carries fr .console (u :: f :: n :: ws) → ws.length = n.toNat → s.device ≠ .unconfigured →
    let good := 1 ≤ n.toNat ∧ n.toNat ≤ 36 ∧ runValid s u.toNat f.toNat n.toNat
    let t : State := { s with
      zones := s.zones.map (fun r =>
        if inRun u.toNat f.toNat n.toNat r then { r with loopHold := runWord ws f.toNat r == 1 } else r) }
    (¬ good → exec (.setLoopHold fr) s = .next (answers fr 35 .badParam [] s)) ∧
    (∀ i, good → (∃ w, ws[i]? = some w ∧ 1 < w.toNat) → (∀ j < i, ∀ w, ws[j]? = some w → w.toNat ≤ 1) →
      exec (.setLoopHold fr) s = .next (answers fr 35 .badParam [num (i + 1)] s)) ∧
    (good → (∀ w ∈ ws, w.toNat ≤ 1) →
      exec (.setLoopHold fr) s =
        .next (answers fr 35 .ok [num (t.zones.countP (fun r => r.unit == u.toNat && r.loopHold))] t))

/-! ### Zone service -/

/-- R81: DISABLE ZONE by the zone's key state: DISABLE joins the halt reasons of a MOVING zone and of an UNKNOWN zone
with a halt pending, a DISABLED zone is left as it stands, and from every other state the zone becomes DISABLED at once,
leaving its queue wherever it stood; the notices and the timers that follow are those of entering DISABLED and of the
tests after an event (R51, R110, R160), and no other is posted. The failure count of a zone in another state than
BLOCKED or FAULTED is kept (log 16). -/
def Obligations.DisableZoneByKeyState : Prop :=
  ∀ (s : State) (f : Frame) (u z : Word), Free s .console → Carries f .console [u, z] → s.device ≠ .unconfigured →
    RecordsOk s →
    (s.zone? u.toNat z.toNat = none → exec (.disableZone f) s = .next (answers f 36 .badParam [] s)) ∧
    ∀ r, s.zone? u.toNat z.toNat = some r → MotionOk r →
      let halting := r.state = .moving ∨ (r.state = .unknown ∧ r.halts.any = true)
      (halting →
        exec (.disableZone f) s =
          .next (answers f 36 .ok [num (keyNumber r.state), 1]
            { s with zones := zoneSet s u.toNat z.toNat (fun q =>
              { q with halts := { q.halts with disable := true }, pollDue := none }) })) ∧
      (r.state = .disabled → exec (.disableZone f) s = .next (answers f 36 .ok [8, 0] s)) ∧
      (¬ halting → r.state ≠ .disabled → ∃ t, exec (.disableZone f) s = .next (answers f 36 .ok [8, 0] t) ∧
        t = (s.enter u.toNat z.toNat .disabled none (fun q =>
          { q with
            retries := 0, failures := if r.state = .blocked ∨ r.state = .faulted then 0 else q.failures })).settle ∧
        OnlyScheduler s t ∧ t.supply.state = s.supply.state ∧
        t.zones = zoneSet s u.toNat z.toNat (fun q =>
          { atRest .disabled none q with
            retries := 0, failures := if r.state = .blocked ∨ r.state = .faulted then 0 else q.failures }) ∧
        OnlyQueue s t u.toNat
          (if r.state = .queued then (s.queue u.toNat).filter (fun y => y != z.toNat) else s.queue u.toNat))

/-- R83, R84: ENABLE ZONE takes a DISABLED zone, and RELEASE ZONE a BLOCKED or FAULTED one, to UNKNOWN with its failure
count at 0; RELEASE ZONE evaluates a MISSED zone at once; each with the notices and the timers of entering its key state
and of the tests after an event (R51, R160) and no other; in every other key state they are refused with WRONG_STATE. -/
def Obligations.EnableAndReleaseByKeyState : Prop :=
  ∀ (s : State) (f : Frame) (u z : Word), Free s .console → Carries f .console [u, z] → s.device ≠ .unconfigured →
    RecordsOk s →
    (s.zone? u.toNat z.toNat = none → exec (.enableZone f) s = .next (answers f 37 .badParam [] s) ∧
      exec (.releaseZone f) s = .next (answers f 38 .badParam [] s)) ∧
    ∀ r, s.zone? u.toNat z.toNat = some r →
      let wrong : List Word := [num (keyNumber r.state)]
      let toUnknown (t : State) : Prop :=
        t = (s.enter u.toNat z.toNat .unknown none (fun q => { q with failures := 0 })).settle ∧
        OnlyScheduler s t ∧ t.queues = s.queues ∧ t.supply.state = s.supply.state ∧
        t.zones = zoneSet s u.toNat z.toNat (fun q => { atRest .unknown none q with failures := 0 })
      (r.state = .disabled → ∃ t, exec (.enableZone f) s = .next (answers f 37 .ok [0] t) ∧ toUnknown t) ∧
      (r.state ≠ .disabled → exec (.enableZone f) s = .next (answers f 37 .wrongState wrong s)) ∧
      (r.state = .blocked ∨ r.state = .faulted →
        ∃ t, exec (.releaseZone f) s = .next (answers f 38 .ok [0] t) ∧ toUnknown t) ∧
      (r.state ≠ .blocked → r.state ≠ .faulted → r.state ≠ .missed →
        exec (.releaseZone f) s = .next (answers f 38 .wrongState wrong s)) ∧
      (r.state = .missed → r.target = none →
        ∃ t, exec (.releaseZone f) s = .next (answers f 38 .ok [1] t) ∧
          t = (s.enter u.toNat z.toNat .idle none (fun q => { q with retries := 0 })).settle ∧
          OnlyScheduler s t ∧ t.queues = s.queues ∧
          t.zones = zoneSet s u.toNat z.toNat (fun q => { atRest .idle none q with retries := 0 })) ∧
      ∀ p tg, r.state = .missed → r.measured = some p → r.target = some tg →
        (distance p tg ≤ s.limits.tolerance →
          ∃ t, exec (.releaseZone f) s = .next (answers f 38 .ok [2] t) ∧
            t = (s.enter u.toNat z.toNat .settled none (fun q =>
              { q with retries := 0, settleStamp := some s.press.sheets })).settle ∧
            OnlyScheduler s t ∧ t.queues = s.queues ∧
            t.zones = zoneSet s u.toNat z.toNat (fun q =>
              { atRest .settled none q with retries := 0, settleStamp := some s.press.sheets })) ∧
        (s.limits.tolerance < distance p tg →
          ∃ t, exec (.releaseZone f) s = .next (answers f 38 .ok [3] t) ∧
            t = (s.enter u.toNat z.toNat .queued none (fun q => { q with retries := 0 })).settle ∧ OnlyScheduler s t ∧
            OnlyQueue s t u.toNat (s.queue u.toNat ++ [z.toNat]) ∧
            t.zones = zoneSet s u.toNat z.toNat (fun q => { atRest .queued none q with retries := 0 }))

/-- R14, R85, R86: SET KEY CAL, its checks in their order, writes one entry of the table (which is under way
until the execution ends: log 7) and takes a zone at rest to UNKNOWN, with the tests that follow an event (R51, R160)
and no notice of its own; READ ECHO reports the last echo, its age and the entry, and changes nothing. -/
def Obligations.CalibrationIsWrittenAndEchoRead : Prop :=
  ∀ (s : State), Free s .console → RecordsOk s →
    (∀ (f : Frame) (u z width gain : Word), Carries f .console [u, z, width, gain] →
      let refused (data : List Word) : Prop := exec (.setKeyCal f) s = .next (answers f 39 .badParam data s)
      let position := 1 ≤ u.toNat ∧ u.toNat ≤ 8 ∧ 1 ≤ z.toNat ∧ z.toNat ≤ 36
      let widthOk := 200 ≤ width.toNat ∧ width.toNat ≤ 4000
      let gainOk := 100 ≤ gain.toNat ∧ gain.toNat ≤ 1600
      let largest := width.toNat + roundHalfUp 2048000 gain.toNat
      let state := (s.zone? u.toNat z.toNat).map ZoneRec.state
      (¬ position → refused [1]) ∧ (position → ¬ widthOk → refused [2]) ∧
      (position → widthOk → ¬ gainOk → refused [3]) ∧
      (position → widthOk → gainOk → 8191 < largest → refused [4, num largest]) ∧
      (∀ k, position → widthOk → gainOk → largest ≤ 8191 → state = some k → (k = .queued ∨ k = .moving) →
        exec (.setKeyCal f) s = .next (answers f 39 .zoneBusy [num (keyNumber k)] s)) ∧
      (position → widthOk → gainOk → largest ≤ 8191 → state ≠ some .queued → state ≠ some .moving →
        let kept := state = none ∨ state = some .unknown ∨ state = some .disabled
        ∃ (made : Word) (t : State),
          exec (.setKeyCal f) s =
            .next (answersWith (some (.cal u.toNat z.toNat ⟨width.toNat, gain.toNat⟩)) f 39 .ok
              [made, num (s.calEntry u.toNat z.toNat).zero, num (s.calEntry u.toNat z.toNat).gain] t) ∧
          (∀ v y, t.calEntry v y =
            if v = u.toNat ∧ y = z.toNat then ⟨width.toNat, gain.toNat⟩ else s.calEntry v y) ∧
          (kept → made = 0 ∧ t = { s with cal := t.cal }) ∧
          (¬ kept → made = 1 ∧
            t = (({ s with cal := t.cal } : State).enter u.toNat z.toNat .unknown none (fun q =>
              { q with failures := 0, retries := 0 })).settle ∧
            OnlyScheduler { s with cal := t.cal } t ∧ t.queues = s.queues ∧
            t.zones = zoneSet s u.toNat z.toNat (fun q => { atRest .unknown none q with failures := 0, retries := 0 })))) ∧
    ∀ (f : Frame) (u z : Word), Carries f .console [u, z] → s.device ≠ .unconfigured →
      (s.zone? u.toNat z.toNat = none → exec (.readEcho f) s = .next (answers f 40 .badParam [] s)) ∧
      ∀ r, s.zone? u.toNat z.toNat = some r →
        let age : BitVec 32 := r.echoTime.elim 0 (fun e => s.clock.now.ms - e)
        exec (.readEcho f) s =
          .next (answers f 40 .ok
            [num (keyNumber r.state), flag r.echoWidth.isSome, num (r.echoWidth.getD 0), upperWord age, lowerWord age,
              num (r.measured.getD 0), num r.failures, num (s.calEntry u.toNat z.toNat).zero,
              num (s.calEntry u.toNat z.toNat).gain] s)

/-! ### HOLD, limits, loop parameters and the supply's retry -/

/-- R87 to R91, R160: HOLD KEYS and RESUME KEYS set and clear HOLD; SET LIMITS and SET LOOP PARAMETERS refuse the first
operand out of its range by its number and otherwise write every parameter and report the old ones; SET LIMITS restarts
a running standby timer, stops it at 0, and starts it when the old time was 0 and the standby condition holds. -/
def Obligations.HoldAndParametersAreSet : Prop :=
  ∀ (s : State), Free s .console →
    (∀ f : Frame, Carries f .console [] → s.device ≠ .unconfigured →
      exec (.holdKeys f) s = .next (answers f 41 .ok [flag s.hold] { s with hold := true }) ∧
      exec (.resumeKeys f) s = .next (answers f 42 .ok [flag s.hold] { s with hold := false })) ∧
    (∀ (f : Frame) (b tol poll move standby : Word), Carries f .console [b, tol, poll, move, standby] →
      let ok (i : Nat) : Prop := match i with
        | 1 => 1 ≤ b.toNat ∧ b.toNat ≤ 24
        | 2 => 1 ≤ tol.toNat ∧ tol.toNat ≤ 20
        | 3 => 20 ≤ poll.toNat ∧ poll.toNat ≤ 500 ∧ poll.toNat % 10 = 0
        | 4 => 1 ≤ move.toNat ∧ move.toNat ≤ 30
        | 5 => standby.toNat ≤ 255
        | _ => True
      let fresh : Option Standby :=
        if standby = 0 then none else some ⟨s.clock.now.ms, standby.toNat * 1000⟩
      let starts := s.limits.standbyS = 0 ∧ s.supply.state = .on ∧ (∀ q ∈ s.queues.toList, q = []) ∧
        ∀ r ∈ s.zones, r.state ≠ .moving
      let after (timer : Option Standby) : State := { s with
        limits := ⟨b.toNat, tol.toNat, poll.toNat, move.toNat, standby.toNat⟩
        supply := { s.supply with standby := timer } }
      let accepted (timer : Option Standby) : Prop :=
        exec (.setLimits f) s =
          .next (answers f 43 .ok
            [num s.limits.budget, num s.limits.tolerance, num s.limits.pollMs, num s.limits.moveLimitS,
              num s.limits.standbyS] (after timer))
      (∀ i, 1 ≤ i → i ≤ 5 → ¬ ok i → (∀ j, 1 ≤ j → j < i → ok j) →
        exec (.setLimits f) s = .next (answers f 43 .badParam [num i] s)) ∧
      ((∀ i, 1 ≤ i → i ≤ 5 → ok i) →
        (s.supply.standby.isSome → accepted fresh) ∧
        (s.supply.standby = none → starts → accepted fresh) ∧
        (s.supply.standby = none → ¬ starts → accepted none))) ∧
    ∀ (f : Frame) (band gain step settle : Word), Carries f .console [band, gain, step, settle] →
      let ok (i : Nat) : Prop := match i with
        | 1 => band.toNat ≤ 100
        | 2 => gain.toNat ≤ 40
        | 3 => 1 ≤ step.toNat ∧ step.toNat ≤ 30
        | 4 => settle.toNat ≤ 255
        | _ => True
      (∀ i, 1 ≤ i → i ≤ 4 → ¬ ok i → (∀ j, 1 ≤ j → j < i → ok j) →
        exec (.setLoopParameters f) s = .next (answers f 45 .badParam [num i] s)) ∧
      ((∀ i, 1 ≤ i → i ≤ 4 → ok i) →
        exec (.setLoopParameters f) s =
          .next (answers f 45 .ok
            [num s.loop.deadBand, num s.loop.gain, num s.loop.stepLimit, num s.loop.settleSheets]
            { s with loop := ⟨band.toNat, gain.toNat, step.toNat, settle.toNat⟩ }))

/-- R163: SUPPLY RETRY takes FAILED to OFF, and with a queue not empty on to WARMING, or to ON when the filtered
SUPPLY-OK level is high; in every other supply state it is refused with WRONG_STATE. -/
def Obligations.SupplyRetryLeavesFailed : Prop :=
  ∀ (s : State) (f : Frame), Free s .console → Carries f .console [] → s.device ≠ .unconfigured →
    let waiting := (s.queues.toList.map List.length).sum
    let becomes (k : SupplyState) (w : Option (BitVec 32)) : Prop :=
      exec (.supplyRetry f) s =
        .next (answers f 44 .ok [num (supplyNumber k), num waiting]
          { s with supply := { s.supply with state := k, warmUp := w } })
    (s.supply.state ≠ .failed →
      exec (.supplyRetry f) s = .next (answers f 44 .wrongState [num (supplyNumber s.supply.state)] s)) ∧
    (s.supply.state = .failed → s.supply.warmUp = none →
      (waiting = 0 → becomes .off none) ∧
      (waiting ≠ 0 → s.supply.ok.filtered = true → becomes .on none) ∧
      (waiting ≠ 0 → s.supply.ok.filtered = false → becomes .warming (some s.clock.now.ms)))

/-! ### The Loop Corrector -/

/-- R92 to R102: the whole-record checks of APPLY DEVIATIONS in their order; an accepted record writes the loop trim of
each zone of the run as it is judged, recomputes the zones whose trim changed, hands one batch and reports every zone.
-/
def Obligations.DeviationRecordsAreJudgedWhole : Prop :=
  ∀ (s : State) (fr : Frame) (u hi lo f n : Word) (ds : List Word), Free s .loop →
    Carries fr .loop (u :: hi :: lo :: f :: n :: ds) → ds.length = n.toNat → s.device ≠ .unconfigured → RecordsOk s →
    let refused (o : ResultCode) (data : List Word) : Prop :=
      exec (.applyDeviations fr) s = .next (answers fr 56 o data s)
    let sheet : BitVec 32 := hi ++ lo
    let countOk := 1 ≤ n.toNat ∧ n.toNat ≤ 36
    let runOk := 1 ≤ f.toNat ∧ f.toNat + n.toNat - 1 ≤ s.zonesOf u.toNat
    let inTable (w : Word) : Prop := w.toInt = -32768 ∨ (-999 ≤ w.toInt ∧ w.toInt ≤ 999)
    ((∀ j, s.job = some j → j.record? u.toNat = none) → refused .noJob []) ∧
    ∀ j p, s.job = some j → j.record? u.toNat = some p →
      (¬ countOk → refused .badParam [1, 0]) ∧ (countOk → ¬ runOk → refused .badParam [2, 0]) ∧
      (∀ i, countOk → runOk → (∃ w, ds[i]? = some w ∧ ¬ inTable w) → (∀ k < i, ∀ w, ds[k]? = some w → inTable w) →
        refused .badParam [3, num (i + 1)]) ∧
      (countOk → runOk → (∀ w ∈ ds, inTable w) →
        (s.press.impression.filtered = false → refused .noPrint []) ∧
        (s.press.impression.filtered = true → 2 ^ 31 ≤ (s.press.sheets - sheet).toNat →
          refused .badSheet [upperWord s.press.sheets, lowerWord s.press.sheets]) ∧
        (s.press.impression.filtered = true → (s.press.sheets - sheet).toNat < 2 ^ 31 →
          let judge (r : ZoneRec) : Nat × Int := judgeZone s.loop p sheet (runWord ds f.toNat r) r
          let write (r : ZoneRec) : ZoneRec :=
            if inRun u.toNat f.toNat n.toNat r then { r with loopTrim := (judge r).2 } else r
          exec (.applyDeviations fr) s =
            .next (answers fr 56 .ok
              ([n] ++ trimCounts s write ++ (s.zones.filter (inRun u.toNat f.toNat n.toNat)).flatMap
                (fun r => [num (judge r).1, BitVec.ofInt 16 (judge r).2]))
              (trimmed s write))))

/-- R96 to R100: the outcome of one zone is the first of the table whose condition holds; outcomes 1 to 6 keep the loop
trim, and the step of outcomes 7 and 8 is clamped to the step limit and the trim to ±60. -/
def Obligations.ZoneOutcomesOfADeviation : Prop :=
  ∀ (l : LoopParams) (p : UnitParams) (sheet stamp : BitVec 32) (w : Word) (r : ZoneRec),
    let d := w.toInt
    let outcome := judgeZone l p sheet w r
    let outside := r.zone < p.first ∨ p.last < r.zone
    let age := (sheet - stamp).toNat
    let step := within l.stepLimit (roundHalfAway (d * l.gain) 100)
    let total := r.loopTrim + step
    let settled := d ≠ -32768 ∧ ¬ outside ∧ r.loopHold = false ∧ r.state = .settled ∧ r.settleStamp = some stamp
    (d = -32768 → outcome = (1, r.loopTrim)) ∧
    (d ≠ -32768 → outside → outcome = (2, r.loopTrim)) ∧
    (d ≠ -32768 → ¬ outside → r.loopHold = true → outcome = (3, r.loopTrim)) ∧
    (d ≠ -32768 → ¬ outside → r.loopHold = false → r.state ≠ .settled → outcome = (4, r.loopTrim)) ∧
    (settled → age < l.settleSheets ∨ 2 ^ 31 ≤ age → outcome = (5, r.loopTrim)) ∧
    (settled → l.settleSheets ≤ age → age < 2 ^ 31 →
      (-(l.deadBand : Int) ≤ d → d ≤ l.deadBand → outcome = (6, r.loopTrim)) ∧
      (¬ (-(l.deadBand : Int) ≤ d ∧ d ≤ l.deadBand) →
        (-60 ≤ total → total ≤ 60 → outcome = (7, total)) ∧
        (total < -60 ∨ 60 < total → outcome = (8, within 60 total))))

/-! ### The Move Scheduler -/

/-- R71, R112 to R115: a batch in the order of the table changes its zones' records one by one by their key states, and
no other record; the zones that join a queue do so at its tail in ascending order, and those that stay keep their
places; a queue filled while the supply is OFF starts the warm-up with its limit timer, or is ON at once (R159); the
standby timer follows (R160); the preset condition is tested after the whole batch. A zone taken out of its queue keeps
its retry count (log 14). -/
def Obligations.BatchIsHandledZoneByZone : Prop :=
  ∀ (s : State) (batch : List (Nat × Nat)), RecordsOk s → QueuesOk s →
    batch.Sublist (s.zones.map (fun r => (r.unit, r.zone))) →
    let t := s.handBatch batch
    let after (r : ZoneRec) : ZoneRec := if (r.unit, r.zone) ∈ batch then retargeted s r else r
    OnlyScheduler s t ∧ t.zones = s.zones.map after ∧
    (∀ u, t.queue u =
      (s.queue u).filter (fun z => (t.zone? u z).any (fun r => r.state == .queued)) ++ joiners s after u) ∧
    StandbyFollows s t (someJoins s after) ∧
    (s.supply.state ≠ .off → t.supply.state = s.supply.state ∧ t.supply.warmUp = s.supply.warmUp) ∧
    (s.supply.state = .off → (∀ q ∈ s.queues.toList, q = []) →
      ((∀ r ∈ t.zones, r.state ≠ .queued) → t.supply.state = .off ∧ t.supply.warmUp = s.supply.warmUp) ∧
      ((∃ r ∈ t.zones, r.state = .queued) →
        t.supply.state = (if s.supply.ok.filtered then .on else .warming) ∧
        t.supply.warmUp = if s.supply.ok.filtered then none else some s.clock.now.ms)) ∧
    (s.preset = true → presetOver t.zones →
      t.preset = false ∧
        ∀ p, (t.port p).notices = if p = .job then (s.port p).notices else (s.port p).notices ||| 8) ∧
    (¬ (s.preset = true ∧ presetOver t.zones) →
      t.preset = s.preset ∧ ∀ p, (t.port p).notices = (s.port p).notices)

/-- R106, R110, R111, R127, R159: what entering a key state other than MOVING does: the record, the queue it leaves and
the queue it joins at the tail, KEY_ALERT on the Console and the Loop Port for BLOCKED, FAULTED and MISSED, SURVEY_DONE
on the Console Port when the last UNKNOWN zone leaves UNKNOWN, and the warm-up of a supply that is OFF. -/
def Obligations.EnteringAKeyState : Prop :=
  ∀ (s : State) (u z : Nat) (k : KeyState) (cause : Option FaultCause) (g : ZoneRec → ZoneRec) (r : ZoneRec),
    k ≠ .moving → 1 ≤ u → u ≤ 8 → s.zone? u z = some r →
    (∀ q, (g q).unit = q.unit ∧ (g q).zone = q.zone ∧ (g q).state = q.state) →
    let t := s.enter u z k cause g
    let stays := if r.state = .queued then (s.queue u).filter (fun y => y != z) else s.queue u
    let alert : BitVec 8 := if k = .blocked ∨ k = .faulted ∨ k = .missed then 16 else 0
    let surveyed := r.state = .unknown ∧ k ≠ .unknown ∧ ∀ q ∈ t.zones, q.state ≠ .unknown
    t = { s with ports := t.ports, zones := t.zones, queues := t.queues, supply := t.supply } ∧
    t.zones = zoneSet s u z (fun q => g (atRest k cause q)) ∧
    OnlyQueue s t u (stays ++ if k = .queued then [z] else []) ∧
    (surveyed → t.port .console =
      { s.port .console with notices := (s.port .console).notices ||| alert ||| 32 }) ∧
    (¬ surveyed → t.port .console = { s.port .console with notices := (s.port .console).notices ||| alert }) ∧
    t.port .loop = { s.port .loop with notices := (s.port .loop).notices ||| alert } ∧ t.port .job = s.port .job ∧
    (k ≠ .queued → t.supply = s.supply) ∧
    (k = .queued →
      (s.supply.state = .off → stays = [] →
        t.supply =
          if s.supply.ok.filtered then { s.supply with state := .on, warmUp := none, standby := none }
          else { s.supply with state := .warming, warmUp := some s.clock.now.ms, standby := none }) ∧
      (s.supply.state ≠ .off ∨ stays ≠ [] → t.supply = { s.supply with standby := none }))

/-- R107: the evaluation of a zone at rest, in the words of entering a key state; R51, R160 (log 26): the two tests that
follow the key state changes of an event, the standby timer's start and the preset condition. -/
def Obligations.EvaluationAndTheTestsThatFollow : Prop :=
  (∀ (s : State) (u z : Nat) (r : ZoneRec), s.zone? u z = some r →
    (r.target = none → s.evaluate u z = s.enter u z .idle none (fun q => { q with retries := 0 })) ∧
    ∀ p t, r.measured = some p → r.target = some t →
      (distance p t ≤ s.limits.tolerance →
        s.evaluate u z = s.enter u z .settled none (fun q => { q with
          retries := 0, settleStamp := if r.state = .settled then q.settleStamp else some s.press.sheets })) ∧
      (s.limits.tolerance < distance p t →
        s.evaluate u z = s.enter u z .queued none (fun q => { q with retries := 0 }))) ∧
  ∀ s : State,
    let standby := s.supply.state = .on ∧ (∀ q ∈ s.queues.toList, q = []) ∧ ∀ r ∈ s.zones, r.state ≠ .moving
    let starts := standby ∧ s.supply.standby = none ∧ s.limits.standbyS ≠ 0
    ∃ timer : Option Standby,
      (starts → timer = some ⟨s.clock.now.ms, s.limits.standbyS * 1000⟩) ∧ (¬ starts → timer = s.supply.standby) ∧
      let t : State := { s with supply := { s.supply with standby := timer } }
      (s.preset = true → presetOver s.zones → s.settle = { t.post .presetDone with preset := false }) ∧
      (¬ (s.preset = true ∧ presetOver s.zones) → s.settle = t)

/-- R111, R116, R117, R66: a grant goes to the first requesting line after the pointer while the moving count is below
the budget; the queue head leaves its queue and becomes MOVING, and its line starts the MOVE; otherwise nothing changes.
R117, R122, R129, R155: whatever the step, a line begins a MOVE only with the filtered FREEZE level released, the supply
ON and HOLD clear, and its zone is MOVING then: a retry of a MOVING zone that is due and not stale, or a first MOVE of a
QUEUED zone (or of one whose stale retry the same turn evaluates), which leaves the moving count within the budget and
the pointer at its line. -/
def Obligations.GrantStartsTheNextMove : Prop :=
  (∀ (s t : State) (u : Nat) (x : Txn), SchedulerOk s → step s = .next t →
    (s.line u).phase ≠ .sending → (t.line u).phase = .sending → (t.line u).txn = some x → x.verb = .move →
    s.press.freeze.filtered = false ∧ s.supply.state = .on ∧ s.hold = false ∧
      (∃ r, t.zone? u x.zone = some r ∧ r.state = .moving ∧ r.moveStart = some s.clock.now.ms) ∧
      ∃ r, s.zone? u x.zone = some r ∧
        ((retryWaits r ∧ r.stale = false ∧ t.movingCount ≤ s.movingCount) ∨
          ((r.state = .queued ∨ (retryWaits r ∧ r.stale = true)) ∧ t.movingCount ≤ s.limits.budget ∧ t.pointer = u))) ∧
  ∀ s : State, SchedulerOk s →
    ((∀ u, ¬ grantsNext s u) → exec .grant s = .next s) ∧
    ∀ u z rest, grantsNext s u → s.queue u = z :: rest →
      ∃ (r : ZoneRec) (t : State), s.zone? u z = some r ∧ r.state = .queued ∧ exec .grant s = .next t ∧
        t = { s with zones := t.zones, queues := t.queues, pointer := u, lines := t.lines } ∧
        t.zones = zoneSet s u z (fun q => { q with state := .moving, moveStart := some s.clock.now.ms }) ∧
        OnlyQueue s t u rest ∧
        (∀ v, t.line v = if v = u then sending s u z .move (some (moveTicksOf s u z r)) none else s.line v) ∧
        t.movingCount = s.movingCount + 1

/-! ### The key lines -/

/-- R122, R149 to R153: at its turn a FREE line takes the first place that yields a transaction: the HALT of its pass,
the lowest due poll or retry, a granted MOVE, the lowest survey SENSE. A retry waits under HOLD, and a stale one is
evaluated without a transaction before the turn goes on. A zone has a due poll or a due retry, never both (R151): the
retry clauses are for a zone whose poll is not due. A turn changes its own line alone, and starts at most one
transaction. A poll that falls due gives its line that turn (log 9), which on a FREE line starts a transaction; POLL_DUE
for a zone whose poll is not due changes nothing (logs 5, 6), and so does LINE_TURN on a line that is not FREE (log 6).
-/
def Obligations.TurnTakesTheFirstPlaceWithWork : Prop :=
  ∀ (s : State) (u : Nat), 1 ≤ u → u ≤ 8 → SchedulerOk s → TimersOk s →
    ((s.line u).phase ≠ .free → exec (.lineTurn u) s = .next s) ∧
    (∀ z r, s.zone? u z = some r → pollWaits s r → exec (.pollDue u z) s = exec (.lineTurn u) s) ∧
    (∀ z, (∀ r, s.zone? u z = some r → ¬ pollWaits s r) → exec (.pollDue u z) s = .next s) ∧
    ((s.line u).phase = .free → ∃ v, exec (.lineTurn u) s = .next v ∧ turnMakes s u v) ∧
    (∀ z r, (s.line u).phase = .free → s.zone? u z = some r → pollWaits s r →
      ∃ v, exec (.pollDue u z) s = .next v ∧ turnMakes s u v ∧ (v.line u).phase = .sending) ∧
    ((s.line u).phase = .free →
      let halting (z : Nat) : Prop := ∃ r, s.zone? u z = some r ∧ haltWaits r
      let poll (z : Nat) : Prop := ∃ r, s.zone? u z = some r ∧ pollWaits s r
      let retry (z : Nat) : Prop := ∃ r, s.zone? u z = some r ∧ retryWaits r
      let passedBy (z : Nat) : Prop :=
        ¬ poll z ∧ (retry z → s.hold = true ∧ ∀ r, s.zone? u z = some r → r.stale = false)
      (∀ z, halting z →
        (match (s.line u).haltMark with
          | none => ∀ y, halting y → z ≤ y
          | some m => (m < z ∧ ∀ y, halting y → m < y → z ≤ y) ∨
              ((∀ y, halting y → y ≤ m) ∧ ∀ y, halting y → z ≤ y)) →
        exec (.lineTurn u) s = .next (s.setLine u (sending s u z .halt none none))) ∧
      ((∀ z, ¬ halting z) →
        (∀ z r, s.zone? u z = some r → pollWaits s r → (∀ y < z, passedBy y) →
          exec (.lineTurn u) s =
            .next ({ s with zones := zoneSet s u z (fun q => { q with pollDue := none }) }.setLine u
              (sending s u z .sense none r.pollDue))) ∧
        (∀ z r, s.zone? u z = some r → retryWaits r → ¬ pollWaits s r → r.stale = false → s.hold = false →
          (∀ y < z, passedBy y) →
          exec (.lineTurn u) s =
            .next ({ s with
              zones := zoneSet s u z (fun q =>
                { q with retryDue := false, moveStart := some s.clock.now.ms }) }.setLine u
              (sending s u z .move (some (moveTicksOf s u z r)) none))) ∧
        (∀ z r, s.zone? u z = some r → retryWaits r → ¬ pollWaits s r → r.stale = true → (∀ y < z, passedBy y) →
          exec (.lineTurn u) s = exec (.lineTurn u) (s.evaluate u z)) ∧
        ((∀ y, passedBy y) →
          (grantsNext s u → exec (.lineTurn u) s = exec .grant s) ∧
          (¬ grantsNext s u →
            (∀ z r, s.zone? u z = some r → surveyWaits r → (∀ y < z, ∀ q, s.zone? u y = some q → ¬ surveyWaits q) →
              exec (.lineTurn u) s = .next (s.setLine u (sending s u z .sense none none))) ∧
            ((∀ z r, s.zone? u z = some r → ¬ surveyWaits r) → exec (.lineTurn u) s = .next s)))))

/-- R133: the request frame: a high start bit, the address and the verb, the target ticks where there are any, which on
a line that keeps its law (O58) is in a MOVE alone, a parity bit that makes the ones even, a low stop bit; 24 bits for a
MOVE and 11 for SENSE and HALT, each field most significant bit first. -/
def Obligations.RequestFrameIsLaidOut : Prop :=
  (∀ (l : Line) (t : Txn), LineOk l → l.txn = some t →
    t.bits = requestBits t.zone t.verb t.ticks ∧ (t.ticks.isSome ↔ t.verb = .move) ∧
      t.bits.length = (match t.verb with
        | .move => 24
        | .sense | .halt => 11) ∧
      t.frameTicks = 4 * t.bits.length) ∧
  ∀ (zone : Nat) (v : Verb) (ticks : Option (BitVec 13)), zone < 64 →
    let b := requestBits zone v ticks
    b.length = (if ticks.isSome then 24 else 11) ∧ b[0]? = some true ∧ b.getLast? = some false ∧
    (∀ i < 6, b[1 + i]? = some (zone.testBit (5 - i))) ∧
    b[7]? = some (decide (v ≠ .move)) ∧ b[8]? = some (decide (v ≠ .sense)) ∧
    (∀ t, ticks = some t → ∀ i < 13, b[9 + i]? = some (t.getLsbD (12 - i))) ∧ (b.drop 1).count true % 2 = 0

/-- R134, R135, R137, R139, R141: the events of a transaction, each in its phase and time: the frame's end records the
request end count; a symbol's start and its end, with its verdict, arm the capture pair; the echo's first rise is
captured; after a rest of 100 ticks REST_END makes the line FREE and takes its turn (R149): the line is FREE, or SENDING
a new transaction, and no other line changes; with no work for it, it is FREE and nothing else changes but by the tests
that follow an event (O44). An event before its time or in another phase changes nothing (logs 5, 6), and so does a rise
later than 12 000 ticks after the request end (R138). The window in which a symbol's start is taken, 2 to 2002 ticks,
and the ties at exactly 2000 and 12 000 ticks, are the model's reading (log 19). -/
def Obligations.TransactionEventsFollowTheirPhases : Prop :=
  ∀ (s : State) (u : Nat) (t : Txn),
    let l := s.line u
    let now := s.clock.echo
    (l.txn = some t → l.phase = .sending →
      ((if t.ticks.isSome then 96 else 44) ≤ (now - t.started).toNat →
        exec (.requestFrameEnd u) s =
          .next (s.setLine u { l with phase := .awaitStatus, txn := some { t with reqEnd := some now } })) ∧
      ((now - t.started).toNat < (if t.ticks.isSome then 96 else 44) → exec (.requestFrameEnd u) s = .next s)) ∧
    (l.phase ≠ .sending → exec (.requestFrameEnd u) s = .next s) ∧
    (∀ e, l.txn = some t → l.phase = .awaitStatus → t.reqEnd = some e →
      (2 ≤ (now - e).toNat → (now - e).toNat ≤ 2002 →
        exec (.statusSymbolStart u) s =
          .next (s.setLine u { l with phase := .receivingStatus, txn := some { t with symbolAt := some now } })) ∧
      ((now - e).toNat < 2 ∨ 2002 < (now - e).toNat → exec (.statusSymbolStart u) s = .next s)) ∧
    (l.phase ≠ .awaitStatus → exec (.statusSymbolStart u) s = .next s) ∧
    (∀ b (code : BitVec 2) (parity stop : Bool), l.txn = some t → l.phase = .receivingStatus → t.symbolAt = some b →
      let ones := (if code.getLsbD 0 then 1 else 0) + (if code.getLsbD 1 then 1 else 0) + (if parity then 1 else 0)
      (18 ≤ (now - b).toNat →
        exec (.statusSymbol u code parity stop) s =
          .next (s.setLine u
            { l with
              phase := .awaitEcho
              txn := some { t with symbol := some ⟨code, decide (code ≠ 0 ∧ ones % 2 = 0 ∧ stop = false)⟩ }
              capture := { l.capture with armed := true } })) ∧
      ((now - b).toNat < 18 → exec (.statusSymbol u code parity stop) s = .next s)) ∧
    (∀ (code : BitVec 2) (parity stop : Bool), l.phase ≠ .receivingStatus →
      exec (.statusSymbol u code parity stop) s = .next s) ∧
    (∀ e, l.txn = some t → l.phase = .awaitEcho → t.reqEnd = some e → l.capture.armed = true →
      (now - e).toNat ≤ 12000 →
      exec (.echoRisingEdge u) s =
        .next (s.setLine u { l with phase := .echo, capture := { l.capture with rise := some now } })) ∧
    (∀ e, l.txn = some t → l.phase = .awaitEcho → t.reqEnd = some e → 12000 < (now - e).toNat →
      exec (.echoRisingEdge u) s = .next s) ∧
    (l.phase ≠ .awaitEcho → exec (.echoRisingEdge u) s = .next s) ∧
    (∀ e, l.txn = some t → l.phase = .resting → t.endedAt = some e →
      (100 ≤ (now - e).toNat →
        let freed := s.setLine u { l with phase := .free, txn := none }
        exec (.restEnd u) s = exec (.lineTurn u) freed ∧
        (∃ v, exec (.restEnd u) s = .next v ∧
          v = { s with
            ports := v.ports, zones := v.zones, queues := v.queues, pointer := v.pointer, preset := v.preset
            lines := v.lines, supply := v.supply } ∧
          (∀ w, w ≠ u → v.line w = s.line w) ∧
          (v.line u = { l with phase := .free, txn := none } ∨
            ∃ z verb ticks saved, v.line u = sending freed u z verb ticks saved)) ∧
        (s.queue u = [] →
          (∀ r ∈ s.zones, r.unit = u → ¬ haltWaits r ∧ ¬ pollWaits s r ∧ ¬ retryWaits r ∧ ¬ surveyWaits r) →
          exec (.restEnd u) s = .next freed.settle)) ∧
      ((now - e).toNat < 100 → exec (.restEnd u) s = .next s)) ∧
    (l.phase ≠ .resting → exec (.restEnd u) s = .next s)

/-- R126, R136, R138, R143, R146, R148: a transaction without a status symbol by 2000 ticks ends with NO_REPLY, one not
ended by 12 000 ticks with LINE_ERROR; the line rests, its halt mark is set, and the failure is counted for its zone.
Either command before its time or in another phase changes nothing (logs 5, 6); at exactly 2000 and 12 000 ticks it is
taken (log 19). -/
def Obligations.FailedTransactionsAreCounted : Prop :=
  ∀ (s : State) (u : Nat) (t : Txn) (e : BitVec 16) (r : ZoneRec), RecordsOk s →
    (s.line u).txn = some t → t.reqEnd = some e → s.zone? u t.zone = some r →
    let l := s.line u
    let ticks := (s.clock.echo - e).toNat
    let failed := (failureTaken (lineEnded s u t l.capture.fall) u t r).settle
    (l.phase = .awaitStatus → 2000 ≤ ticks → exec (.noReply u) s = .next failed) ∧
    (l.phase = .awaitStatus → ticks < 2000 → exec (.noReply u) s = .next s) ∧
    (l.phase ≠ .awaitStatus → exec (.noReply u) s = .next s) ∧
    (l.phase = .receivingStatus ∨ l.phase = .awaitEcho ∨ l.phase = .echo →
      (12000 ≤ ticks → exec (.lineErrorLimit u) s = .next failed) ∧
      (ticks < 12000 → exec (.lineErrorLimit u) s = .next s)) ∧
    (l.phase ≠ .receivingStatus → l.phase ≠ .awaitEcho → l.phase ≠ .echo → exec (.lineErrorLimit u) s = .next s)

/-- R107 to R109, R119 to R128, R142 to R145: the end of an echo yields the width, judges the reply, writes the position
fields of a valid one, and takes it by the key state, the verb and the status; an implausible one is a failure. A fall
later than 12 000 ticks after the request end is not captured (R138; log 5), and on a line that is not in ECHO the
command changes nothing (log 6). -/
def Obligations.EchoEndTakesTheReply : Prop :=
  (∀ (s : State) (u : Nat), (s.line u).phase ≠ .echo → exec (.echoEnd u) s = .next s) ∧
  (∀ (s : State) (u : Nat) (t : Txn) (e : BitVec 16), (s.line u).txn = some t → t.reqEnd = some e →
    12000 < (s.clock.echo - e).toNat → exec (.echoEnd u) s = .next s) ∧
  ∀ (s : State) (u : Nat) (t : Txn) (e b : BitVec 16) (y : Symbol) (r : ZoneRec), RecordsOk s →
    (s.line u).txn = some t → (s.line u).phase = .echo → t.reqEnd = some e → (s.line u).capture.rise = some b →
    t.symbol = some y → s.zone? u t.zone = some r → (s.clock.echo - e).toNat ≤ 12000 →
    let z := t.zone
    let w := (s.clock.echo - b).toNat
    let q := echoValue (s.calEntry u z) w
    let valid := y.good = true ∧ y.code ≠ 0 ∧ 200 ≤ w ∧ w ≤ 8191 ∧ -20 ≤ q ∧ q ≤ 520
    let ended := lineEnded s u t (some s.clock.echo)
    let p := (if q < 0 then 0 else if 500 < q then 500 else q).toNat
    let echoed (k : ZoneRec) : ZoneRec :=
      { k with
        measured := some p, echoWidth := some w, echoTime := some s.clock.now.ms
        failures := if k.state = .faulted then k.failures else 0 }
    let s1 : State := { ended with zones := zoneSet ended u z echoed }
    let with1 (g : ZoneRec → ZoneRec) : State := { s1 with zones := zoneSet s1 u z g }
    let becomes (x : State) : Prop := exec (.echoEnd u) s = .next x.settle
    let running := y.code = 1
    let stopped := y.code = 2
    let age := r.moveStart.elim 0 (fun m => (s.clock.now.ms - m).toNat)
    let limit := s.limits.moveLimitS * 1000
    let reasons := r.halts.any = true
    let near := r.target.elim False (fun tg => distance p tg ≤ s.limits.tolerance)
    let toQueue (g : ZoneRec → ZoneRec) (x : State) : Prop :=
      becomes (x.enter u z (if r.target.isNone then .idle else .queued) none g)
    let pollLater : State :=
      if reasons then s1 else with1 (fun k => { k with pollDue := some ⟨s.clock.now.ms, s.limits.pollMs⟩ })
    let timeout (k : ZoneRec) : ZoneRec := { k with halts := { k.halts with timeout := true }, pollDue := none }
    (¬ valid → exec (.echoEnd u) s = .next (failureTaken ended u t r).settle) ∧
    (valid → r.state = .disabled → becomes s1) ∧
    (valid → y.code = 3 → (r.state = .unknown ∨ r.state = .moving ∨ r.state = .queued ∨ r.state = .idle ∨
      r.state = .settled) → becomes (s1.enter u z .blocked (some .stall) id)) ∧
    (valid → ¬ y.code = 3 → (r.state = .queued ∨ r.state = .idle ∨ r.state = .settled) → becomes s1) ∧
    (valid → r.state = .unknown → ¬ reasons →
      (stopped → becomes (s1.evaluate u z)) ∧
      (running → becomes (with1 (fun k =>
        { k with halts := { k.halts with survey := true }, moveStart := some s.clock.now.ms })))) ∧
    (valid → r.state = .unknown → reasons →
      (stopped → becomes (s1.enter u z (if r.halts.disable then .disabled else .unknown) none id)) ∧
      (running → limit < age → becomes (s1.enter u z .blocked (some .timeout) id)) ∧
      (running → age ≤ limit → becomes s1)) ∧
    (valid → r.state = .moving → t.verb = .move → ¬ y.code = 3 → becomes pollLater) ∧
    (valid → r.state = .moving → t.verb = .sense → running →
      (limit < age → becomes (with1 timeout)) ∧ (age ≤ limit → becomes pollLater)) ∧
    (valid → r.state = .moving → t.verb = .sense → stopped →
      (reasons → becomes s1) ∧
      (¬ reasons → r.target = none → becomes (s1.enter u z .idle none (fun k => { k with retries := 0 }))) ∧
      (¬ reasons → near → becomes (s1.enter u z .settled none
        (fun k => { k with settleStamp := some s.press.sheets, retries := 0 }))) ∧
      (¬ reasons → r.target ≠ none → ¬ near →
        (r.stale = true → becomes (s1.enter u z .queued none (fun k => { k with retries := 0 }))) ∧
        (r.stale = false → r.retries < 2 →
          let due := with1 (fun k => { k with retries := k.retries + 1, retryDue := true, pollDue := none })
          (s.press.freeze.filtered = false → becomes due) ∧ (s.press.freeze.filtered = true → toQueue id due)) ∧
        (r.stale = false → 2 ≤ r.retries → becomes (s1.enter u z .missed none id)))) ∧
    (valid → r.state = .moving → t.verb = .halt → stopped →
      (r.halts.disable = true → becomes (s1.enter u z .disabled none id)) ∧
      (r.halts.disable = false → r.halts.timeout = true → becomes (s1.enter u z .blocked (some .timeout) id)) ∧
      (r.halts.disable = false → r.halts.timeout = false → toQueue id s1)) ∧
    (valid → r.state = .moving → t.verb = .halt → running →
      (r.halts.timeout = true → 2 * limit < age → becomes (s1.enter u z .blocked (some .timeout) id)) ∧
      (¬ (r.halts.timeout = true ∧ 2 * limit < age) →
        (limit < age → becomes (with1 timeout)) ∧ (age ≤ limit → becomes s1)))

/-! ### Press signals and supply -/

/-- R167, log 23: a rising edge of SHEET while RUNNING is counted when no edge was counted yet or 5 ms have passed since
the last counted one, and ignored otherwise; a falling edge, and any edge outside RUNNING, moves the pin alone; an edge
to the level the pin has changes nothing (log 6). -/
def Obligations.SheetEdgesAreSpaced : Prop :=
  ∀ s : State,
    let counted (pin : Bool) : State := { s with press := { s.press with
      sheetPin := pin, sheets := s.press.sheets + 1, lastEdge := some s.clock.now } }
    let ignored (pin : Bool) : State := { s with press := { s.press with sheetPin := pin } }
    (s.press.sheetPin = false → s.press.phase = .running →
      (s.press.lastEdge = none → exec (.sheetEdge true) s = .next (counted true)) ∧
      ∀ last, s.press.lastEdge = some last →
        (5000 ≤ elapsedUs s.clock.now last → exec (.sheetEdge true) s = .next (counted true)) ∧
        (elapsedUs s.clock.now last < 5000 → exec (.sheetEdge true) s = .next (ignored true))) ∧
    (s.press.sheetPin = false → s.press.phase ≠ .running → exec (.sheetEdge true) s = .next (ignored true)) ∧
    (s.press.sheetPin = true → exec (.sheetEdge false) s = .next (ignored false)) ∧
    exec (.sheetEdge s.press.sheetPin) s = .next s ∧
    ∀ now last : Instant, elapsedUs now last =
      (now.ms.toNat * 1000 + now.us.val + 2 ^ 32 * 1000 - (last.ms.toNat * 1000 + last.us.val)) % (2 ^ 32 * 1000)

/-- R158, R169, R170: the three filters of 1 ms: a raw change begins or drops a pending change while RUNNING and moves
the pin alone otherwise; a change that has stood 1 ms is taken. An expiry command whose change has not stood 1 ms, and a
raw change to the level the pin has, change nothing (logs 5, 6). IMPRESSION's change touches nothing else. -/
def Obligations.FiltersHoldForOneMillisecond : Prop :=
  ∀ (s : State) (level : Bool),
    let raw (l : Level) : Level := if s.press.phase = .running then rawTaken s l level else { l with raw := level }
    let impression (l : Level) : State := { s with press := { s.press with impression := l } }
    let freeze (l : Level) : State := { s with press := { s.press with freeze := l } }
    exec (.pressLevelRawChange .impression level) s = .next (impression (raw s.press.impression)) ∧
    exec (.pressLevelRawChange .freeze level) s = .next (freeze (raw s.press.freeze)) ∧
    exec (.supplyOkRawChange level) s = .next { s with supply := { s.supply with ok := raw s.supply.ok } } ∧
    (s.press.phase = .running → changeDue s s.press.impression level →
      exec (.pressLevelFilterExpiry .impression) s = .next (impression (levelAfter s.press.impression level))) ∧
    ((s.press.phase ≠ .running ∨ ∀ v, ¬ changeDue s s.press.impression v) →
      exec (.pressLevelFilterExpiry .impression) s = .next s) ∧
    ((s.press.phase ≠ .running ∨ ∀ v, ¬ changeDue s s.press.freeze v) →
      exec (.pressLevelFilterExpiry .freeze) s = .next s) ∧
    ((s.press.phase ≠ .running ∨ ∀ v, ¬ changeDue s s.supply.ok v) → exec .supplyOkFilterExpiry s = .next s)

/-- R129, R171: at the assertion of the filtered FREEZE level a MOVING zone with a retry due is requeued at the tail
with its retry count kept, or evaluated when it is stale, and every other MOVING zone gains FREEZE among its halt
reasons, in ascending order; no other zone changes. At the release no zone changes. Each posts FREEZE_CHANGE to the
Console and the Loop Port, and nothing else is posted but PRESET_DONE where its condition is met (R51); the standby
timer follows (R160). A retry that is due beside halt reasons is resolved as one without (log 15). -/
def Obligations.FreezeHaltsEveryMovingZone : Prop :=
  ∀ s : State, s.press.phase = .running →
    let taken (level : Bool) : State :=
      { s with press := { s.press with freeze := levelAfter s.press.freeze level } }
    (changeDue s s.press.freeze false →
      exec (.pressLevelFilterExpiry .freeze) s = .next ((taken false).post .freezeChange)) ∧
    (SchedulerOk s → changeDue s s.press.freeze true →
      let after (r : ZoneRec) : ZoneRec :=
        if r.state = .moving then
          if r.retryDue then (if r.stale then evaluated s r else requeued r)
          else { r with halts := { r.halts with freeze := true }, pollDue := none }
        else r
      ∃ t, exec (.pressLevelFilterExpiry .freeze) s = .next t ∧ OnlyScheduler (taken true) t ∧
        t.zones = s.zones.map after ∧ (∀ u, t.queue u = s.queue u ++ joiners s after u) ∧
        t.supply = { s.supply with standby := t.supply.standby } ∧ StandbyFollows s t (someJoins s after) ∧
        PresetFollows s t (fun p => if p = .job then 0 else 128))

/-- R157 to R161: the moves of the supply state: WARMING to ON at the rise of the filtered SUPPLY-OK level, to FAILED
with SUPPLY_ALERT at the expiry of 2000 ms; ON to FAILED at its fall, every MOVING zone requeued in ascending order, and
ON to OFF at the expiry of the standby timer; every other change of the level has no effect but its own. A supply loss
posts SUPPLY_ALERT to the Console Port, and PRESET_DONE where its condition is met (R51), and nothing else.
WARM_UP_LIMIT_EXPIRY and STANDBY_TIMER_EXPIRY before their time or in another state change nothing (logs 5, 6). -/
def Obligations.SupplyStateMovesUnderItsRules : Prop :=
  ∀ s : State,
    let level (v : Bool) : State := { s with supply := { s.supply with ok := levelAfter s.supply.ok v } }
    (s.press.phase = .running →
      (changeDue s s.supply.ok true → s.supply.state = .warming →
        exec .supplyOkFilterExpiry s =
          .next { level true with supply := { (level true).supply with state := .on, warmUp := none } }.settle) ∧
      (∀ v, changeDue s s.supply.ok v → ¬ (v = true ∧ s.supply.state = .warming) →
        ¬ (v = false ∧ s.supply.state = .on) → exec .supplyOkFilterExpiry s = .next (level v)) ∧
      (SchedulerOk s → changeDue s s.supply.ok false → s.supply.state = .on →
        let after (r : ZoneRec) : ZoneRec := if r.state = .moving then requeued r else r
        ∃ t, exec .supplyOkFilterExpiry s = .next t ∧ OnlyScheduler (level false) t ∧
          t.supply = ⟨.failed, none, none, levelAfter s.supply.ok false⟩ ∧
          t.zones = s.zones.map after ∧ t.movingCount = 0 ∧
          (∀ u, t.queue u = s.queue u ++ joiners s after u) ∧
          PresetFollows s t (fun p => if p = .console then 64 else 0))) ∧
    (∀ w, s.supply.state = .warming → s.supply.warmUp = some w →
      (2000 ≤ (s.clock.now.ms - w).toNat →
        exec .warmUpLimitExpiry s =
          .next ({ s with supply := { s.supply with state := .failed, warmUp := none } }.modPort .console
            (fun c => { c with notices := c.notices ||| 64 }))) ∧
      ((s.clock.now.ms - w).toNat < 2000 → exec .warmUpLimitExpiry s = .next s)) ∧
    (s.supply.state ≠ .warming → exec .warmUpLimitExpiry s = .next s) ∧
    let standby := s.supply.state = .on ∧ (∀ q ∈ s.queues.toList, q = []) ∧ ∀ r ∈ s.zones, r.state ≠ .moving
    (∀ b, standby → s.supply.standby = some b →
      (b.ms ≤ (s.clock.now.ms - b.start).toNat →
        exec .standbyTimerExpiry s = .next { s with supply := { s.supply with state := .off, standby := none } }) ∧
      ((s.clock.now.ms - b.start).toNat < b.ms → exec .standbyTimerExpiry s = .next s)) ∧
    ((s.supply.standby = none ∨ ¬ standby) → exec .standbyTimerExpiry s = .next s)

/-! ### Laws every step keeps -/

/-- R13, R106, R111, R117, R126, R129: from every state that satisfies the laws of the Move Scheduler, every step gives
one that satisfies them: a zone stands in its unit's queue exactly while QUEUED and once; at most 24 zones are MOVING,
and none unless the supply is ON; failure counts, fault causes, flags, halt reasons and times stand only where they may;
no retry is due under FREEZE. -/
def Obligations.EveryStepKeepsTheSchedulerLaws : Prop :=
  ∀ s t : State, SchedulerOk s → step s = .next t → SchedulerOk t

/-- R14, R19, R26, R33, R44, R76, R88, R90, R100, R1, R3, R6, R9: every step keeps the laws of the tables, parameters,
trims, staged slot, active job and device state, each from every state that satisfies it with the laws it rests on.
Those of the staged slot and the active job say also that they lie within the configuration: their units are configured,
the expected total is the sum of their Nz(u), and no sheet width passes Nz(u). Nz(u) and every field of a zone record
stay in the ranges of R3 and R6. The tables' laws hold too of what a reset would keep and of what an execution under way
has written (log 7). -/
def Obligations.EveryStepKeepsTheTableLaws : Prop :=
  ∀ s t : State, step s = .next t →
    (CurvesOk s → CurvesOk t) ∧ (CalibrationOk s → CalibrationOk t) ∧ (LimitsOk s → LimitsOk t) ∧
    (TrimsOk s → TrimsOk t) ∧ (ReferencedDefined s → ReferencedDefined t) ∧ (SlotOk s → SlotOk t) ∧
    (SlotOk s → JobOk s → JobOk t) ∧ (SlotFits s → DeviceOk s → SlotFits t) ∧
    (SlotFits s → JobFits s → DeviceOk s → JobFits t) ∧ (DeviceOk s → DeviceOk t) ∧ (DeviceOk s → TargetsOk s → TargetsOk t) ∧
    (CurvesOk s → SlotOk s → JobOk s → RangesOk s → RangesOk t)

/-- R55, R69, R72: while a job is active the set-point fields of every zone are those the chain gives for the inputs as
they stand, after every step. -/
def Obligations.EveryStepKeepsTargetsComputed : Prop :=
  ∀ s t : State, RecordsOk s → DeviceOk s → ComputedOk s → step s = .next t → ComputedOk t

/-- R131, R133, R134, R139, R157, R160, R51: every step keeps the laws of the key lines, and with the scheduler's laws
those of the supply timers and of preset tracking. -/
def Obligations.EveryStepKeepsLinesAndTimers : Prop :=
  ∀ s t : State, step s = .next t →
    (LinesOk s → LinesOk t) ∧ (SchedulerOk s → DeviceOk s → TimersOk s → TimersOk t)

/-- The part at power-on satisfies every law that the steps keep. -/
def Obligations.ResetStateSatisfiesTheLaws : Prop :=
  SchedulerOk State.reset ∧ CurvesOk State.reset ∧ CalibrationOk State.reset ∧ LimitsOk State.reset ∧
    TrimsOk State.reset ∧ ReferencedDefined State.reset ∧ SlotOk State.reset ∧ JobOk State.reset ∧
    SlotFits State.reset ∧ JobFits State.reset ∧ KeptOk State.reset ∧ DeviceOk State.reset ∧ TargetsOk State.reset ∧
    RangesOk State.reset ∧ ComputedOk State.reset ∧ LinesOk State.reset ∧ TimersOk State.reset

/-- 00_scope.md, The three masters, in every state whose records are those of the configuration: no request on the Job
Port changes a zone, a queue, a key line, the supply, the active job or a limit; no request on the Loop Port changes a
zone's coverage or console trim, the configuration, the jobs, a table or a limit; and no request on the Console Port
writes coverage: it leaves the staged slot as it is or empties it, and every coverage a zone holds after it is the one
it held, absent, or, after TAKE JOB, a value of the staged stream, which only the Job Port's requests extend. -/
def Obligations.MastersKeepTheirDivisionOfWork : Prop :=
  ∀ (q : Req) (f : Frame) (s t : State), RecordsOk s → exec (command q f) s = .next t →
    (f.port = .job →
      t.zones = s.zones ∧ t.queues = s.queues ∧ t.lines = s.lines ∧ t.supply = s.supply ∧ t.job = s.job ∧
        t.device = s.device ∧ t.nz = s.nz ∧ t.limits = s.limits ∧ t.loop = s.loop ∧ t.hold = s.hold ∧ t.cal = s.cal) ∧
    (f.port = .loop →
      t.zones.map ZoneRec.coverage = s.zones.map ZoneRec.coverage ∧
        t.zones.map ZoneRec.consoleTrim = s.zones.map ZoneRec.consoleTrim ∧ t.slot = s.slot ∧ t.job = s.job ∧
        t.device = s.device ∧ t.nz = s.nz ∧ t.curves = s.curves ∧ t.cal = s.cal ∧ t.limits = s.limits ∧ t.loop = s.loop ∧
        t.hold = s.hold) ∧
    (f.port = .console →
      (t.slot = s.slot ∨ t.slot = .empty) ∧
        ∀ r ∈ t.zones, r.coverage = none ∨
          (∃ o ∈ s.zones, o.unit = r.unit ∧ o.zone = r.zone ∧ o.coverage = r.coverage) ∨
          (q = .takeJob ∧ ∃ c v, s.slot = .complete c ∧ v ∈ c.stream ∧ r.coverage = some v))

end
end

