-- ==== Sys2Proof/Laws/Frames.lean ====
section
/-! SUPPORT. The words of a frame's bits. -/

namespace Sys2Proof

open Sys2Proof.Machine

/-- Sixteen bits, most significant first, make their word. -/
theorem shiftConcat_bits (w : Word) : (fieldBits w).foldl BitVec.shiftConcat 0 = w := by
  apply BitVec.eq_of_getLsbD_eq
  intro i hi
  simp only [fieldBits, List.range, List.range.loop, List.map_cons, List.map_nil, List.foldl_cons, List.foldl_nil]
  interval_cases i <;> simp

/-- The first sixteen bits of a frame are its first word. -/
theorem gatherWords_word (w : Word) (rest : List Bool) :
    gatherWords 0 0 (fieldBits w ++ rest) = (w :: (gatherWords 0 0 rest).1, (gatherWords 0 0 rest).2) := by
  have h := shiftConcat_bits w
  simp only [fieldBits, List.range, List.range.loop, List.map_cons, List.map_nil, List.foldl_cons, List.foldl_nil] at h
  simp only [fieldBits, List.range, List.range.loop, List.map_cons, List.map_nil, List.cons_append, List.nil_append,
    gatherWords, Nat.reduceEqDiff, Nat.reduceAdd, if_true, if_false, h]

/-- Fewer than sixteen bits from a word's start make no word, and a partial one when there are any. -/
theorem gatherWords_short (bits : List Bool) (n : Nat) (acc : Word) (h : n + bits.length < 16) :
    gatherWords n acc bits = ([], n + bits.length != 0) := by
  induction bits generalizing n acc with
  | nil => rfl
  | cons b rest ih =>
    simp only [List.length_cons] at h ⊢
    have hn : n ≠ 15 := by omega
    rw [gatherWords, if_neg hn, ih _ _ (by omega)]
    congr 2; omega

/-- The whole words of a frame in their order, and the partial word that trails them. -/
theorem gatherWords_words (ws : List Word) (tail : List Bool) (h : tail.length < 16) :
    gatherWords 0 0 (ws.flatMap fieldBits ++ tail) = (ws, tail.length != 0) := by
  induction ws with
  | nil => simpa using gatherWords_short tail 0 0 (by omega)
  | cons w ws ih => rw [List.flatMap_cons, List.append_assoc, gatherWords_word, ih]

end Sys2Proof
end

