-- ==== Sys2Proof/Laws/State.lean ====
section
/-! SUPPORT. What each update of the state leaves as it stands: one lemma per field and update. -/

namespace Sys2Proof.Machine

variable (s : State)

/-! ### One Port Controller changed -/

@[simp] theorem State.modPort_pending (p : Port) (f : PortCtl → PortCtl) : (s.modPort p f).pending = s.pending := rfl
@[simp] theorem State.modPort_clock (p : Port) (f : PortCtl → PortCtl) : (s.modPort p f).clock = s.clock := rfl
@[simp] theorem State.modPort_device (p : Port) (f : PortCtl → PortCtl) : (s.modPort p f).device = s.device := rfl
@[simp] theorem State.modPort_nz (p : Port) (f : PortCtl → PortCtl) : (s.modPort p f).nz = s.nz := rfl
@[simp] theorem State.modPort_zones (p : Port) (f : PortCtl → PortCtl) : (s.modPort p f).zones = s.zones := rfl
@[simp] theorem State.modPort_cal (p : Port) (f : PortCtl → PortCtl) : (s.modPort p f).cal = s.cal := rfl
@[simp] theorem State.modPort_curves (p : Port) (f : PortCtl → PortCtl) : (s.modPort p f).curves = s.curves := rfl
@[simp] theorem State.modPort_kept (p : Port) (f : PortCtl → PortCtl) : (s.modPort p f).kept = s.kept := rfl
@[simp] theorem State.modPort_slot (p : Port) (f : PortCtl → PortCtl) : (s.modPort p f).slot = s.slot := rfl
@[simp] theorem State.modPort_job (p : Port) (f : PortCtl → PortCtl) : (s.modPort p f).job = s.job := rfl
@[simp] theorem State.modPort_limits (p : Port) (f : PortCtl → PortCtl) : (s.modPort p f).limits = s.limits := rfl
@[simp] theorem State.modPort_loop (p : Port) (f : PortCtl → PortCtl) : (s.modPort p f).loop = s.loop := rfl
@[simp] theorem State.modPort_queues (p : Port) (f : PortCtl → PortCtl) : (s.modPort p f).queues = s.queues := rfl
@[simp] theorem State.modPort_pointer (p : Port) (f : PortCtl → PortCtl) : (s.modPort p f).pointer = s.pointer := rfl
@[simp] theorem State.modPort_hold (p : Port) (f : PortCtl → PortCtl) : (s.modPort p f).hold = s.hold := rfl
@[simp] theorem State.modPort_preset (p : Port) (f : PortCtl → PortCtl) : (s.modPort p f).preset = s.preset := rfl
@[simp] theorem State.modPort_lines (p : Port) (f : PortCtl → PortCtl) : (s.modPort p f).lines = s.lines := rfl
@[simp] theorem State.modPort_supply (p : Port) (f : PortCtl → PortCtl) : (s.modPort p f).supply = s.supply := rfl
@[simp] theorem State.modPort_press (p : Port) (f : PortCtl → PortCtl) : (s.modPort p f).press = s.press := rfl

/-! ### A kind posted -/

@[simp] theorem State.post_pending (k : Notice) : (s.post k).pending = s.pending := by cases k <;> rfl
@[simp] theorem State.post_clock (k : Notice) : (s.post k).clock = s.clock := by cases k <;> rfl
@[simp] theorem State.post_device (k : Notice) : (s.post k).device = s.device := by cases k <;> rfl
@[simp] theorem State.post_nz (k : Notice) : (s.post k).nz = s.nz := by cases k <;> rfl
@[simp] theorem State.post_zones (k : Notice) : (s.post k).zones = s.zones := by cases k <;> rfl
@[simp] theorem State.post_cal (k : Notice) : (s.post k).cal = s.cal := by cases k <;> rfl
@[simp] theorem State.post_curves (k : Notice) : (s.post k).curves = s.curves := by cases k <;> rfl
@[simp] theorem State.post_kept (k : Notice) : (s.post k).kept = s.kept := by cases k <;> rfl
@[simp] theorem State.post_slot (k : Notice) : (s.post k).slot = s.slot := by cases k <;> rfl
@[simp] theorem State.post_job (k : Notice) : (s.post k).job = s.job := by cases k <;> rfl
@[simp] theorem State.post_limits (k : Notice) : (s.post k).limits = s.limits := by cases k <;> rfl
@[simp] theorem State.post_loop (k : Notice) : (s.post k).loop = s.loop := by cases k <;> rfl
@[simp] theorem State.post_queues (k : Notice) : (s.post k).queues = s.queues := by cases k <;> rfl
@[simp] theorem State.post_pointer (k : Notice) : (s.post k).pointer = s.pointer := by cases k <;> rfl
@[simp] theorem State.post_hold (k : Notice) : (s.post k).hold = s.hold := by cases k <;> rfl
@[simp] theorem State.post_preset (k : Notice) : (s.post k).preset = s.preset := by cases k <;> rfl
@[simp] theorem State.post_lines (k : Notice) : (s.post k).lines = s.lines := by cases k <;> rfl
@[simp] theorem State.post_supply (k : Notice) : (s.post k).supply = s.supply := by cases k <;> rfl
@[simp] theorem State.post_press (k : Notice) : (s.post k).press = s.press := by cases k <;> rfl

/-! ### One zone record changed -/

@[simp] theorem State.modZone_pending (u z : Nat) (f : ZoneRec → ZoneRec) : (s.modZone u z f).pending = s.pending := rfl
@[simp] theorem State.modZone_clock (u z : Nat) (f : ZoneRec → ZoneRec) : (s.modZone u z f).clock = s.clock := rfl
@[simp] theorem State.modZone_ports (u z : Nat) (f : ZoneRec → ZoneRec) : (s.modZone u z f).ports = s.ports := rfl
@[simp] theorem State.modZone_device (u z : Nat) (f : ZoneRec → ZoneRec) : (s.modZone u z f).device = s.device := rfl
@[simp] theorem State.modZone_nz (u z : Nat) (f : ZoneRec → ZoneRec) : (s.modZone u z f).nz = s.nz := rfl
@[simp] theorem State.modZone_cal (u z : Nat) (f : ZoneRec → ZoneRec) : (s.modZone u z f).cal = s.cal := rfl
@[simp] theorem State.modZone_curves (u z : Nat) (f : ZoneRec → ZoneRec) : (s.modZone u z f).curves = s.curves := rfl
@[simp] theorem State.modZone_kept (u z : Nat) (f : ZoneRec → ZoneRec) : (s.modZone u z f).kept = s.kept := rfl
@[simp] theorem State.modZone_slot (u z : Nat) (f : ZoneRec → ZoneRec) : (s.modZone u z f).slot = s.slot := rfl
@[simp] theorem State.modZone_job (u z : Nat) (f : ZoneRec → ZoneRec) : (s.modZone u z f).job = s.job := rfl
@[simp] theorem State.modZone_limits (u z : Nat) (f : ZoneRec → ZoneRec) : (s.modZone u z f).limits = s.limits := rfl
@[simp] theorem State.modZone_loop (u z : Nat) (f : ZoneRec → ZoneRec) : (s.modZone u z f).loop = s.loop := rfl
@[simp] theorem State.modZone_queues (u z : Nat) (f : ZoneRec → ZoneRec) : (s.modZone u z f).queues = s.queues := rfl
@[simp] theorem State.modZone_pointer (u z : Nat) (f : ZoneRec → ZoneRec) : (s.modZone u z f).pointer = s.pointer := rfl
@[simp] theorem State.modZone_hold (u z : Nat) (f : ZoneRec → ZoneRec) : (s.modZone u z f).hold = s.hold := rfl
@[simp] theorem State.modZone_preset (u z : Nat) (f : ZoneRec → ZoneRec) : (s.modZone u z f).preset = s.preset := rfl
@[simp] theorem State.modZone_lines (u z : Nat) (f : ZoneRec → ZoneRec) : (s.modZone u z f).lines = s.lines := rfl
@[simp] theorem State.modZone_supply (u z : Nat) (f : ZoneRec → ZoneRec) : (s.modZone u z f).supply = s.supply := rfl
@[simp] theorem State.modZone_press (u z : Nat) (f : ZoneRec → ZoneRec) : (s.modZone u z f).press = s.press := rfl

/-! ### A calibration entry written -/

@[simp] theorem State.setCalEntry_pending (u z : Nat) (e : CalEntry) : (s.setCalEntry u z e).pending = s.pending := rfl
@[simp] theorem State.setCalEntry_clock (u z : Nat) (e : CalEntry) : (s.setCalEntry u z e).clock = s.clock := rfl
@[simp] theorem State.setCalEntry_ports (u z : Nat) (e : CalEntry) : (s.setCalEntry u z e).ports = s.ports := rfl
@[simp] theorem State.setCalEntry_device (u z : Nat) (e : CalEntry) : (s.setCalEntry u z e).device = s.device := rfl
@[simp] theorem State.setCalEntry_nz (u z : Nat) (e : CalEntry) : (s.setCalEntry u z e).nz = s.nz := rfl
@[simp] theorem State.setCalEntry_zones (u z : Nat) (e : CalEntry) : (s.setCalEntry u z e).zones = s.zones := rfl
@[simp] theorem State.setCalEntry_curves (u z : Nat) (e : CalEntry) : (s.setCalEntry u z e).curves = s.curves := rfl
@[simp] theorem State.setCalEntry_kept (u z : Nat) (e : CalEntry) : (s.setCalEntry u z e).kept = s.kept := rfl
@[simp] theorem State.setCalEntry_slot (u z : Nat) (e : CalEntry) : (s.setCalEntry u z e).slot = s.slot := rfl
@[simp] theorem State.setCalEntry_job (u z : Nat) (e : CalEntry) : (s.setCalEntry u z e).job = s.job := rfl
@[simp] theorem State.setCalEntry_limits (u z : Nat) (e : CalEntry) : (s.setCalEntry u z e).limits = s.limits := rfl
@[simp] theorem State.setCalEntry_loop (u z : Nat) (e : CalEntry) : (s.setCalEntry u z e).loop = s.loop := rfl
@[simp] theorem State.setCalEntry_queues (u z : Nat) (e : CalEntry) : (s.setCalEntry u z e).queues = s.queues := rfl
@[simp] theorem State.setCalEntry_pointer (u z : Nat) (e : CalEntry) : (s.setCalEntry u z e).pointer = s.pointer := rfl
@[simp] theorem State.setCalEntry_hold (u z : Nat) (e : CalEntry) : (s.setCalEntry u z e).hold = s.hold := rfl
@[simp] theorem State.setCalEntry_preset (u z : Nat) (e : CalEntry) : (s.setCalEntry u z e).preset = s.preset := rfl
@[simp] theorem State.setCalEntry_lines (u z : Nat) (e : CalEntry) : (s.setCalEntry u z e).lines = s.lines := rfl
@[simp] theorem State.setCalEntry_supply (u z : Nat) (e : CalEntry) : (s.setCalEntry u z e).supply = s.supply := rfl
@[simp] theorem State.setCalEntry_press (u z : Nat) (e : CalEntry) : (s.setCalEntry u z e).press = s.press := rfl

/-! ### A curve slot written -/

@[simp] theorem State.setCurve_pending (k : Nat) (c : Option Curve) : (s.setCurve k c).pending = s.pending := rfl
@[simp] theorem State.setCurve_clock (k : Nat) (c : Option Curve) : (s.setCurve k c).clock = s.clock := rfl
@[simp] theorem State.setCurve_ports (k : Nat) (c : Option Curve) : (s.setCurve k c).ports = s.ports := rfl
@[simp] theorem State.setCurve_device (k : Nat) (c : Option Curve) : (s.setCurve k c).device = s.device := rfl
@[simp] theorem State.setCurve_nz (k : Nat) (c : Option Curve) : (s.setCurve k c).nz = s.nz := rfl
@[simp] theorem State.setCurve_zones (k : Nat) (c : Option Curve) : (s.setCurve k c).zones = s.zones := rfl
@[simp] theorem State.setCurve_cal (k : Nat) (c : Option Curve) : (s.setCurve k c).cal = s.cal := rfl
@[simp] theorem State.setCurve_kept (k : Nat) (c : Option Curve) : (s.setCurve k c).kept = s.kept := rfl
@[simp] theorem State.setCurve_slot (k : Nat) (c : Option Curve) : (s.setCurve k c).slot = s.slot := rfl
@[simp] theorem State.setCurve_job (k : Nat) (c : Option Curve) : (s.setCurve k c).job = s.job := rfl
@[simp] theorem State.setCurve_limits (k : Nat) (c : Option Curve) : (s.setCurve k c).limits = s.limits := rfl
@[simp] theorem State.setCurve_loop (k : Nat) (c : Option Curve) : (s.setCurve k c).loop = s.loop := rfl
@[simp] theorem State.setCurve_queues (k : Nat) (c : Option Curve) : (s.setCurve k c).queues = s.queues := rfl
@[simp] theorem State.setCurve_pointer (k : Nat) (c : Option Curve) : (s.setCurve k c).pointer = s.pointer := rfl
@[simp] theorem State.setCurve_hold (k : Nat) (c : Option Curve) : (s.setCurve k c).hold = s.hold := rfl
@[simp] theorem State.setCurve_preset (k : Nat) (c : Option Curve) : (s.setCurve k c).preset = s.preset := rfl
@[simp] theorem State.setCurve_lines (k : Nat) (c : Option Curve) : (s.setCurve k c).lines = s.lines := rfl
@[simp] theorem State.setCurve_supply (k : Nat) (c : Option Curve) : (s.setCurve k c).supply = s.supply := rfl
@[simp] theorem State.setCurve_press (k : Nat) (c : Option Curve) : (s.setCurve k c).press = s.press := rfl

/-! ### A key line's controller written -/

@[simp] theorem State.setLine_pending (u : Nat) (l : Line) : (s.setLine u l).pending = s.pending := rfl
@[simp] theorem State.setLine_clock (u : Nat) (l : Line) : (s.setLine u l).clock = s.clock := rfl
@[simp] theorem State.setLine_ports (u : Nat) (l : Line) : (s.setLine u l).ports = s.ports := rfl
@[simp] theorem State.setLine_device (u : Nat) (l : Line) : (s.setLine u l).device = s.device := rfl
@[simp] theorem State.setLine_nz (u : Nat) (l : Line) : (s.setLine u l).nz = s.nz := rfl
@[simp] theorem State.setLine_zones (u : Nat) (l : Line) : (s.setLine u l).zones = s.zones := rfl
@[simp] theorem State.setLine_cal (u : Nat) (l : Line) : (s.setLine u l).cal = s.cal := rfl
@[simp] theorem State.setLine_curves (u : Nat) (l : Line) : (s.setLine u l).curves = s.curves := rfl
@[simp] theorem State.setLine_kept (u : Nat) (l : Line) : (s.setLine u l).kept = s.kept := rfl
@[simp] theorem State.setLine_slot (u : Nat) (l : Line) : (s.setLine u l).slot = s.slot := rfl
@[simp] theorem State.setLine_job (u : Nat) (l : Line) : (s.setLine u l).job = s.job := rfl
@[simp] theorem State.setLine_limits (u : Nat) (l : Line) : (s.setLine u l).limits = s.limits := rfl
@[simp] theorem State.setLine_loop (u : Nat) (l : Line) : (s.setLine u l).loop = s.loop := rfl
@[simp] theorem State.setLine_queues (u : Nat) (l : Line) : (s.setLine u l).queues = s.queues := rfl
@[simp] theorem State.setLine_pointer (u : Nat) (l : Line) : (s.setLine u l).pointer = s.pointer := rfl
@[simp] theorem State.setLine_hold (u : Nat) (l : Line) : (s.setLine u l).hold = s.hold := rfl
@[simp] theorem State.setLine_preset (u : Nat) (l : Line) : (s.setLine u l).preset = s.preset := rfl
@[simp] theorem State.setLine_supply (u : Nat) (l : Line) : (s.setLine u l).supply = s.supply := rfl
@[simp] theorem State.setLine_press (u : Nat) (l : Line) : (s.setLine u l).press = s.press := rfl

/-! ### A zone leaves its queue -/

@[simp] theorem State.dequeue_pending (u z : Nat) : (s.dequeue u z).pending = s.pending := rfl
@[simp] theorem State.dequeue_clock (u z : Nat) : (s.dequeue u z).clock = s.clock := rfl
@[simp] theorem State.dequeue_ports (u z : Nat) : (s.dequeue u z).ports = s.ports := rfl
@[simp] theorem State.dequeue_device (u z : Nat) : (s.dequeue u z).device = s.device := rfl
@[simp] theorem State.dequeue_nz (u z : Nat) : (s.dequeue u z).nz = s.nz := rfl
@[simp] theorem State.dequeue_zones (u z : Nat) : (s.dequeue u z).zones = s.zones := rfl
@[simp] theorem State.dequeue_cal (u z : Nat) : (s.dequeue u z).cal = s.cal := rfl
@[simp] theorem State.dequeue_curves (u z : Nat) : (s.dequeue u z).curves = s.curves := rfl
@[simp] theorem State.dequeue_kept (u z : Nat) : (s.dequeue u z).kept = s.kept := rfl
@[simp] theorem State.dequeue_slot (u z : Nat) : (s.dequeue u z).slot = s.slot := rfl
@[simp] theorem State.dequeue_job (u z : Nat) : (s.dequeue u z).job = s.job := rfl
@[simp] theorem State.dequeue_limits (u z : Nat) : (s.dequeue u z).limits = s.limits := rfl
@[simp] theorem State.dequeue_loop (u z : Nat) : (s.dequeue u z).loop = s.loop := rfl
@[simp] theorem State.dequeue_pointer (u z : Nat) : (s.dequeue u z).pointer = s.pointer := rfl
@[simp] theorem State.dequeue_hold (u z : Nat) : (s.dequeue u z).hold = s.hold := rfl
@[simp] theorem State.dequeue_preset (u z : Nat) : (s.dequeue u z).preset = s.preset := rfl
@[simp] theorem State.dequeue_lines (u z : Nat) : (s.dequeue u z).lines = s.lines := rfl
@[simp] theorem State.dequeue_supply (u z : Nat) : (s.dequeue u z).supply = s.supply := rfl
@[simp] theorem State.dequeue_press (u z : Nat) : (s.dequeue u z).press = s.press := rfl

/-! ### A press level written -/

@[simp] theorem State.setLevel_pending (w : PressLevel) (l : Level) : (s.setLevel w l).pending = s.pending :=
  by cases w <;> rfl
@[simp] theorem State.setLevel_clock (w : PressLevel) (l : Level) : (s.setLevel w l).clock = s.clock :=
  by cases w <;> rfl
@[simp] theorem State.setLevel_ports (w : PressLevel) (l : Level) : (s.setLevel w l).ports = s.ports :=
  by cases w <;> rfl
@[simp] theorem State.setLevel_device (w : PressLevel) (l : Level) : (s.setLevel w l).device = s.device :=
  by cases w <;> rfl
@[simp] theorem State.setLevel_nz (w : PressLevel) (l : Level) : (s.setLevel w l).nz = s.nz := by cases w <;> rfl
@[simp] theorem State.setLevel_zones (w : PressLevel) (l : Level) : (s.setLevel w l).zones = s.zones :=
  by cases w <;> rfl
@[simp] theorem State.setLevel_cal (w : PressLevel) (l : Level) : (s.setLevel w l).cal = s.cal := by cases w <;> rfl
@[simp] theorem State.setLevel_curves (w : PressLevel) (l : Level) : (s.setLevel w l).curves = s.curves :=
  by cases w <;> rfl
@[simp] theorem State.setLevel_kept (w : PressLevel) (l : Level) : (s.setLevel w l).kept = s.kept := by cases w <;> rfl
@[simp] theorem State.setLevel_slot (w : PressLevel) (l : Level) : (s.setLevel w l).slot = s.slot := by cases w <;> rfl
@[simp] theorem State.setLevel_job (w : PressLevel) (l : Level) : (s.setLevel w l).job = s.job := by cases w <;> rfl
@[simp] theorem State.setLevel_limits (w : PressLevel) (l : Level) : (s.setLevel w l).limits = s.limits :=
  by cases w <;> rfl
@[simp] theorem State.setLevel_loop (w : PressLevel) (l : Level) : (s.setLevel w l).loop = s.loop := by cases w <;> rfl
@[simp] theorem State.setLevel_queues (w : PressLevel) (l : Level) : (s.setLevel w l).queues = s.queues :=
  by cases w <;> rfl
@[simp] theorem State.setLevel_pointer (w : PressLevel) (l : Level) : (s.setLevel w l).pointer = s.pointer :=
  by cases w <;> rfl
@[simp] theorem State.setLevel_hold (w : PressLevel) (l : Level) : (s.setLevel w l).hold = s.hold := by cases w <;> rfl
@[simp] theorem State.setLevel_preset (w : PressLevel) (l : Level) : (s.setLevel w l).preset = s.preset :=
  by cases w <;> rfl
@[simp] theorem State.setLevel_lines (w : PressLevel) (l : Level) : (s.setLevel w l).lines = s.lines :=
  by cases w <;> rfl
@[simp] theorem State.setLevel_supply (w : PressLevel) (l : Level) : (s.setLevel w l).supply = s.supply :=
  by cases w <;> rfl

/-! ### The SUPPLY-OK level written -/

@[simp] theorem State.setSupplyOk_pending (l : Level) : (s.setSupplyOk l).pending = s.pending := rfl
@[simp] theorem State.setSupplyOk_clock (l : Level) : (s.setSupplyOk l).clock = s.clock := rfl
@[simp] theorem State.setSupplyOk_ports (l : Level) : (s.setSupplyOk l).ports = s.ports := rfl
@[simp] theorem State.setSupplyOk_device (l : Level) : (s.setSupplyOk l).device = s.device := rfl
@[simp] theorem State.setSupplyOk_nz (l : Level) : (s.setSupplyOk l).nz = s.nz := rfl
@[simp] theorem State.setSupplyOk_zones (l : Level) : (s.setSupplyOk l).zones = s.zones := rfl
@[simp] theorem State.setSupplyOk_cal (l : Level) : (s.setSupplyOk l).cal = s.cal := rfl
@[simp] theorem State.setSupplyOk_curves (l : Level) : (s.setSupplyOk l).curves = s.curves := rfl
@[simp] theorem State.setSupplyOk_kept (l : Level) : (s.setSupplyOk l).kept = s.kept := rfl
@[simp] theorem State.setSupplyOk_slot (l : Level) : (s.setSupplyOk l).slot = s.slot := rfl
@[simp] theorem State.setSupplyOk_job (l : Level) : (s.setSupplyOk l).job = s.job := rfl
@[simp] theorem State.setSupplyOk_limits (l : Level) : (s.setSupplyOk l).limits = s.limits := rfl
@[simp] theorem State.setSupplyOk_loop (l : Level) : (s.setSupplyOk l).loop = s.loop := rfl
@[simp] theorem State.setSupplyOk_queues (l : Level) : (s.setSupplyOk l).queues = s.queues := rfl
@[simp] theorem State.setSupplyOk_pointer (l : Level) : (s.setSupplyOk l).pointer = s.pointer := rfl
@[simp] theorem State.setSupplyOk_hold (l : Level) : (s.setSupplyOk l).hold = s.hold := rfl
@[simp] theorem State.setSupplyOk_preset (l : Level) : (s.setSupplyOk l).preset = s.preset := rfl
@[simp] theorem State.setSupplyOk_lines (l : Level) : (s.setSupplyOk l).lines = s.lines := rfl
@[simp] theorem State.setSupplyOk_press (l : Level) : (s.setSupplyOk l).press = s.press := rfl

/-! ### The RESET pin moved -/

@[simp] theorem State.setResetPin_pending (b : Bool) : (s.setResetPin b).pending = s.pending := rfl
@[simp] theorem State.setResetPin_clock (b : Bool) : (s.setResetPin b).clock = s.clock := rfl
@[simp] theorem State.setResetPin_ports (b : Bool) : (s.setResetPin b).ports = s.ports := rfl
@[simp] theorem State.setResetPin_device (b : Bool) : (s.setResetPin b).device = s.device := rfl
@[simp] theorem State.setResetPin_nz (b : Bool) : (s.setResetPin b).nz = s.nz := rfl
@[simp] theorem State.setResetPin_zones (b : Bool) : (s.setResetPin b).zones = s.zones := rfl
@[simp] theorem State.setResetPin_cal (b : Bool) : (s.setResetPin b).cal = s.cal := rfl
@[simp] theorem State.setResetPin_curves (b : Bool) : (s.setResetPin b).curves = s.curves := rfl
@[simp] theorem State.setResetPin_kept (b : Bool) : (s.setResetPin b).kept = s.kept := rfl
@[simp] theorem State.setResetPin_slot (b : Bool) : (s.setResetPin b).slot = s.slot := rfl
@[simp] theorem State.setResetPin_job (b : Bool) : (s.setResetPin b).job = s.job := rfl
@[simp] theorem State.setResetPin_limits (b : Bool) : (s.setResetPin b).limits = s.limits := rfl
@[simp] theorem State.setResetPin_loop (b : Bool) : (s.setResetPin b).loop = s.loop := rfl
@[simp] theorem State.setResetPin_queues (b : Bool) : (s.setResetPin b).queues = s.queues := rfl
@[simp] theorem State.setResetPin_pointer (b : Bool) : (s.setResetPin b).pointer = s.pointer := rfl
@[simp] theorem State.setResetPin_hold (b : Bool) : (s.setResetPin b).hold = s.hold := rfl
@[simp] theorem State.setResetPin_preset (b : Bool) : (s.setResetPin b).preset = s.preset := rfl
@[simp] theorem State.setResetPin_lines (b : Bool) : (s.setResetPin b).lines = s.lines := rfl
@[simp] theorem State.setResetPin_supply (b : Bool) : (s.setResetPin b).supply = s.supply := rfl

/-! ### The entry into WARMING -/

@[simp] theorem State.startWarmUp_pending : (s.startWarmUp).pending = s.pending :=
  by unfold State.startWarmUp; split <;> rfl
@[simp] theorem State.startWarmUp_clock : (s.startWarmUp).clock = s.clock := by unfold State.startWarmUp; split <;> rfl
@[simp] theorem State.startWarmUp_ports : (s.startWarmUp).ports = s.ports := by unfold State.startWarmUp; split <;> rfl
@[simp] theorem State.startWarmUp_device : (s.startWarmUp).device = s.device :=
  by unfold State.startWarmUp; split <;> rfl
@[simp] theorem State.startWarmUp_nz : (s.startWarmUp).nz = s.nz := by unfold State.startWarmUp; split <;> rfl
@[simp] theorem State.startWarmUp_zones : (s.startWarmUp).zones = s.zones := by unfold State.startWarmUp; split <;> rfl
@[simp] theorem State.startWarmUp_cal : (s.startWarmUp).cal = s.cal := by unfold State.startWarmUp; split <;> rfl
@[simp] theorem State.startWarmUp_curves : (s.startWarmUp).curves = s.curves :=
  by unfold State.startWarmUp; split <;> rfl
@[simp] theorem State.startWarmUp_kept : (s.startWarmUp).kept = s.kept := by unfold State.startWarmUp; split <;> rfl
@[simp] theorem State.startWarmUp_slot : (s.startWarmUp).slot = s.slot := by unfold State.startWarmUp; split <;> rfl
@[simp] theorem State.startWarmUp_job : (s.startWarmUp).job = s.job := by unfold State.startWarmUp; split <;> rfl
@[simp] theorem State.startWarmUp_limits : (s.startWarmUp).limits = s.limits :=
  by unfold State.startWarmUp; split <;> rfl
@[simp] theorem State.startWarmUp_loop : (s.startWarmUp).loop = s.loop := by unfold State.startWarmUp; split <;> rfl
@[simp] theorem State.startWarmUp_queues : (s.startWarmUp).queues = s.queues :=
  by unfold State.startWarmUp; split <;> rfl
@[simp] theorem State.startWarmUp_pointer : (s.startWarmUp).pointer = s.pointer :=
  by unfold State.startWarmUp; split <;> rfl
@[simp] theorem State.startWarmUp_hold : (s.startWarmUp).hold = s.hold := by unfold State.startWarmUp; split <;> rfl
@[simp] theorem State.startWarmUp_preset : (s.startWarmUp).preset = s.preset :=
  by unfold State.startWarmUp; split <;> rfl
@[simp] theorem State.startWarmUp_lines : (s.startWarmUp).lines = s.lines := by unfold State.startWarmUp; split <;> rfl
@[simp] theorem State.startWarmUp_press : (s.startWarmUp).press = s.press := by unfold State.startWarmUp; split <;> rfl

/-! ### A zone joins its queue -/

@[simp] theorem State.enqueue_pending (u z : Nat) : (s.enqueue u z).pending = s.pending :=
  by unfold State.enqueue; dsimp only; split <;> simp
@[simp] theorem State.enqueue_clock (u z : Nat) : (s.enqueue u z).clock = s.clock :=
  by unfold State.enqueue; dsimp only; split <;> simp
@[simp] theorem State.enqueue_ports (u z : Nat) : (s.enqueue u z).ports = s.ports :=
  by unfold State.enqueue; dsimp only; split <;> simp
@[simp] theorem State.enqueue_device (u z : Nat) : (s.enqueue u z).device = s.device :=
  by unfold State.enqueue; dsimp only; split <;> simp
@[simp] theorem State.enqueue_nz (u z : Nat) : (s.enqueue u z).nz = s.nz :=
  by unfold State.enqueue; dsimp only; split <;> simp
@[simp] theorem State.enqueue_zones (u z : Nat) : (s.enqueue u z).zones = s.zones :=
  by unfold State.enqueue; dsimp only; split <;> simp
@[simp] theorem State.enqueue_cal (u z : Nat) : (s.enqueue u z).cal = s.cal :=
  by unfold State.enqueue; dsimp only; split <;> simp
@[simp] theorem State.enqueue_curves (u z : Nat) : (s.enqueue u z).curves = s.curves :=
  by unfold State.enqueue; dsimp only; split <;> simp
@[simp] theorem State.enqueue_kept (u z : Nat) : (s.enqueue u z).kept = s.kept :=
  by unfold State.enqueue; dsimp only; split <;> simp
@[simp] theorem State.enqueue_slot (u z : Nat) : (s.enqueue u z).slot = s.slot :=
  by unfold State.enqueue; dsimp only; split <;> simp
@[simp] theorem State.enqueue_job (u z : Nat) : (s.enqueue u z).job = s.job :=
  by unfold State.enqueue; dsimp only; split <;> simp
@[simp] theorem State.enqueue_limits (u z : Nat) : (s.enqueue u z).limits = s.limits :=
  by unfold State.enqueue; dsimp only; split <;> simp
@[simp] theorem State.enqueue_loop (u z : Nat) : (s.enqueue u z).loop = s.loop :=
  by unfold State.enqueue; dsimp only; split <;> simp
@[simp] theorem State.enqueue_pointer (u z : Nat) : (s.enqueue u z).pointer = s.pointer :=
  by unfold State.enqueue; dsimp only; split <;> simp
@[simp] theorem State.enqueue_hold (u z : Nat) : (s.enqueue u z).hold = s.hold :=
  by unfold State.enqueue; dsimp only; split <;> simp
@[simp] theorem State.enqueue_preset (u z : Nat) : (s.enqueue u z).preset = s.preset :=
  by unfold State.enqueue; dsimp only; split <;> simp
@[simp] theorem State.enqueue_lines (u z : Nat) : (s.enqueue u z).lines = s.lines :=
  by unfold State.enqueue; dsimp only; split <;> simp
@[simp] theorem State.enqueue_press (u z : Nat) : (s.enqueue u z).press = s.press :=
  by unfold State.enqueue; dsimp only; split <;> simp

/-! ### The standby timer's start -/

@[simp] theorem State.standbyRefresh_pending : (s.standbyRefresh).pending = s.pending :=
  by unfold State.standbyRefresh; split <;> rfl
@[simp] theorem State.standbyRefresh_clock : (s.standbyRefresh).clock = s.clock :=
  by unfold State.standbyRefresh; split <;> rfl
@[simp] theorem State.standbyRefresh_ports : (s.standbyRefresh).ports = s.ports :=
  by unfold State.standbyRefresh; split <;> rfl
@[simp] theorem State.standbyRefresh_device : (s.standbyRefresh).device = s.device :=
  by unfold State.standbyRefresh; split <;> rfl
@[simp] theorem State.standbyRefresh_nz : (s.standbyRefresh).nz = s.nz := by unfold State.standbyRefresh; split <;> rfl
@[simp] theorem State.standbyRefresh_zones : (s.standbyRefresh).zones = s.zones :=
  by unfold State.standbyRefresh; split <;> rfl
@[simp] theorem State.standbyRefresh_cal : (s.standbyRefresh).cal = s.cal :=
  by unfold State.standbyRefresh; split <;> rfl
@[simp] theorem State.standbyRefresh_curves : (s.standbyRefresh).curves = s.curves :=
  by unfold State.standbyRefresh; split <;> rfl
@[simp] theorem State.standbyRefresh_kept : (s.standbyRefresh).kept = s.kept :=
  by unfold State.standbyRefresh; split <;> rfl
@[simp] theorem State.standbyRefresh_slot : (s.standbyRefresh).slot = s.slot :=
  by unfold State.standbyRefresh; split <;> rfl
@[simp] theorem State.standbyRefresh_job : (s.standbyRefresh).job = s.job :=
  by unfold State.standbyRefresh; split <;> rfl
@[simp] theorem State.standbyRefresh_limits : (s.standbyRefresh).limits = s.limits :=
  by unfold State.standbyRefresh; split <;> rfl
@[simp] theorem State.standbyRefresh_loop : (s.standbyRefresh).loop = s.loop :=
  by unfold State.standbyRefresh; split <;> rfl
@[simp] theorem State.standbyRefresh_queues : (s.standbyRefresh).queues = s.queues :=
  by unfold State.standbyRefresh; split <;> rfl
@[simp] theorem State.standbyRefresh_pointer : (s.standbyRefresh).pointer = s.pointer :=
  by unfold State.standbyRefresh; split <;> rfl
@[simp] theorem State.standbyRefresh_hold : (s.standbyRefresh).hold = s.hold :=
  by unfold State.standbyRefresh; split <;> rfl
@[simp] theorem State.standbyRefresh_preset : (s.standbyRefresh).preset = s.preset :=
  by unfold State.standbyRefresh; split <;> rfl
@[simp] theorem State.standbyRefresh_lines : (s.standbyRefresh).lines = s.lines :=
  by unfold State.standbyRefresh; split <;> rfl
@[simp] theorem State.standbyRefresh_press : (s.standbyRefresh).press = s.press :=
  by unfold State.standbyRefresh; split <;> rfl

/-! ### One microsecond -/

@[simp] theorem State.tick_pending : (s.tick).pending = s.pending := by unfold State.tick; split <;> rfl
@[simp] theorem State.tick_ports : (s.tick).ports = s.ports := by unfold State.tick; split <;> rfl
@[simp] theorem State.tick_device : (s.tick).device = s.device := by unfold State.tick; split <;> rfl
@[simp] theorem State.tick_nz : (s.tick).nz = s.nz := by unfold State.tick; split <;> rfl
@[simp] theorem State.tick_zones : (s.tick).zones = s.zones := by unfold State.tick; split <;> rfl
@[simp] theorem State.tick_cal : (s.tick).cal = s.cal := by unfold State.tick; split <;> rfl
@[simp] theorem State.tick_curves : (s.tick).curves = s.curves := by unfold State.tick; split <;> rfl
@[simp] theorem State.tick_kept : (s.tick).kept = s.kept := by unfold State.tick; split <;> rfl
@[simp] theorem State.tick_slot : (s.tick).slot = s.slot := by unfold State.tick; split <;> rfl
@[simp] theorem State.tick_job : (s.tick).job = s.job := by unfold State.tick; split <;> rfl
@[simp] theorem State.tick_limits : (s.tick).limits = s.limits := by unfold State.tick; split <;> rfl
@[simp] theorem State.tick_loop : (s.tick).loop = s.loop := by unfold State.tick; split <;> rfl
@[simp] theorem State.tick_queues : (s.tick).queues = s.queues := by unfold State.tick; split <;> rfl
@[simp] theorem State.tick_pointer : (s.tick).pointer = s.pointer := by unfold State.tick; split <;> rfl
@[simp] theorem State.tick_hold : (s.tick).hold = s.hold := by unfold State.tick; split <;> rfl
@[simp] theorem State.tick_preset : (s.tick).preset = s.preset := by unfold State.tick; split <;> rfl
@[simp] theorem State.tick_lines : (s.tick).lines = s.lines := by unfold State.tick; split <;> rfl
@[simp] theorem State.tick_supply : (s.tick).supply = s.supply := by unfold State.tick; split <;> rfl
@[simp] theorem State.tick_press : (s.tick).press = s.press := by unfold State.tick; split <;> rfl

/-! ### A request begins its execution -/

@[simp] theorem State.beginExecution_pending (p : Port) (c : BitVec 8) (tag : BitVec 4) (a : Answer) (w : Option TableWrite) : (s.beginExecution p c tag a w).pending = s.pending :=
  rfl
@[simp] theorem State.beginExecution_clock (p : Port) (c : BitVec 8) (tag : BitVec 4) (a : Answer) (w : Option TableWrite) : (s.beginExecution p c tag a w).clock = s.clock :=
  rfl
@[simp] theorem State.beginExecution_device (p : Port) (c : BitVec 8) (tag : BitVec 4) (a : Answer) (w : Option TableWrite) : (s.beginExecution p c tag a w).device = s.device :=
  rfl
@[simp] theorem State.beginExecution_nz (p : Port) (c : BitVec 8) (tag : BitVec 4) (a : Answer) (w : Option TableWrite) : (s.beginExecution p c tag a w).nz = s.nz :=
  rfl
@[simp] theorem State.beginExecution_zones (p : Port) (c : BitVec 8) (tag : BitVec 4) (a : Answer) (w : Option TableWrite) : (s.beginExecution p c tag a w).zones = s.zones :=
  rfl
@[simp] theorem State.beginExecution_cal (p : Port) (c : BitVec 8) (tag : BitVec 4) (a : Answer) (w : Option TableWrite) : (s.beginExecution p c tag a w).cal = s.cal :=
  rfl
@[simp] theorem State.beginExecution_curves (p : Port) (c : BitVec 8) (tag : BitVec 4) (a : Answer) (w : Option TableWrite) : (s.beginExecution p c tag a w).curves = s.curves :=
  rfl
@[simp] theorem State.beginExecution_slot (p : Port) (c : BitVec 8) (tag : BitVec 4) (a : Answer) (w : Option TableWrite) : (s.beginExecution p c tag a w).slot = s.slot :=
  rfl
@[simp] theorem State.beginExecution_job (p : Port) (c : BitVec 8) (tag : BitVec 4) (a : Answer) (w : Option TableWrite) : (s.beginExecution p c tag a w).job = s.job :=
  rfl
@[simp] theorem State.beginExecution_limits (p : Port) (c : BitVec 8) (tag : BitVec 4) (a : Answer) (w : Option TableWrite) : (s.beginExecution p c tag a w).limits = s.limits :=
  rfl
@[simp] theorem State.beginExecution_loop (p : Port) (c : BitVec 8) (tag : BitVec 4) (a : Answer) (w : Option TableWrite) : (s.beginExecution p c tag a w).loop = s.loop :=
  rfl
@[simp] theorem State.beginExecution_queues (p : Port) (c : BitVec 8) (tag : BitVec 4) (a : Answer) (w : Option TableWrite) : (s.beginExecution p c tag a w).queues = s.queues :=
  rfl
@[simp] theorem State.beginExecution_pointer (p : Port) (c : BitVec 8) (tag : BitVec 4) (a : Answer) (w : Option TableWrite) : (s.beginExecution p c tag a w).pointer = s.pointer :=
  rfl
@[simp] theorem State.beginExecution_hold (p : Port) (c : BitVec 8) (tag : BitVec 4) (a : Answer) (w : Option TableWrite) : (s.beginExecution p c tag a w).hold = s.hold :=
  rfl
@[simp] theorem State.beginExecution_preset (p : Port) (c : BitVec 8) (tag : BitVec 4) (a : Answer) (w : Option TableWrite) : (s.beginExecution p c tag a w).preset = s.preset :=
  rfl
@[simp] theorem State.beginExecution_lines (p : Port) (c : BitVec 8) (tag : BitVec 4) (a : Answer) (w : Option TableWrite) : (s.beginExecution p c tag a w).lines = s.lines :=
  rfl
@[simp] theorem State.beginExecution_supply (p : Port) (c : BitVec 8) (tag : BitVec 4) (a : Answer) (w : Option TableWrite) : (s.beginExecution p c tag a w).supply = s.supply :=
  rfl
@[simp] theorem State.beginExecution_press (p : Port) (c : BitVec 8) (tag : BitVec 4) (a : Answer) (w : Option TableWrite) : (s.beginExecution p c tag a w).press = s.press :=
  rfl

/-! ### The end of an execution's hold on the kept tables -/

@[simp] theorem State.commit_pending (p : Port) : (s.commit p).pending = s.pending :=
  by unfold State.commit; split <;> rfl
@[simp] theorem State.commit_clock (p : Port) : (s.commit p).clock = s.clock := by unfold State.commit; split <;> rfl
@[simp] theorem State.commit_ports (p : Port) : (s.commit p).ports = s.ports := by unfold State.commit; split <;> rfl
@[simp] theorem State.commit_device (p : Port) : (s.commit p).device = s.device := by unfold State.commit; split <;> rfl
@[simp] theorem State.commit_nz (p : Port) : (s.commit p).nz = s.nz := by unfold State.commit; split <;> rfl
@[simp] theorem State.commit_zones (p : Port) : (s.commit p).zones = s.zones := by unfold State.commit; split <;> rfl
@[simp] theorem State.commit_cal (p : Port) : (s.commit p).cal = s.cal := by unfold State.commit; split <;> rfl
@[simp] theorem State.commit_curves (p : Port) : (s.commit p).curves = s.curves := by unfold State.commit; split <;> rfl
@[simp] theorem State.commit_slot (p : Port) : (s.commit p).slot = s.slot := by unfold State.commit; split <;> rfl
@[simp] theorem State.commit_job (p : Port) : (s.commit p).job = s.job := by unfold State.commit; split <;> rfl
@[simp] theorem State.commit_limits (p : Port) : (s.commit p).limits = s.limits := by unfold State.commit; split <;> rfl
@[simp] theorem State.commit_loop (p : Port) : (s.commit p).loop = s.loop := by unfold State.commit; split <;> rfl
@[simp] theorem State.commit_queues (p : Port) : (s.commit p).queues = s.queues := by unfold State.commit; split <;> rfl
@[simp] theorem State.commit_pointer (p : Port) : (s.commit p).pointer = s.pointer :=
  by unfold State.commit; split <;> rfl
@[simp] theorem State.commit_hold (p : Port) : (s.commit p).hold = s.hold := by unfold State.commit; split <;> rfl
@[simp] theorem State.commit_preset (p : Port) : (s.commit p).preset = s.preset := by unfold State.commit; split <;> rfl
@[simp] theorem State.commit_lines (p : Port) : (s.commit p).lines = s.lines := by unfold State.commit; split <;> rfl
@[simp] theorem State.commit_supply (p : Port) : (s.commit p).supply = s.supply := by unfold State.commit; split <;> rfl
@[simp] theorem State.commit_press (p : Port) : (s.commit p).press = s.press := by unfold State.commit; split <;> rfl

end Sys2Proof.Machine
end

