-- ==== Sys2Proof/Laws/Tables.lean ====
section
/-! SUPPORT. The tables of the part: entries numbered from 1, zone records, move queues, key lines, calibration, curves. -/

namespace Sys2Proof.Machine

/-! ### Tables numbered from 1 -/

theorem vector_getD {α : Type} {n : Nat} (v : Vector α n) (i : Nat) (d : α) : v.getD i d = (v[i]?).getD d := by
  unfold Vector.getD
  by_cases h : i < n <;> simp [h]

theorem at1_put1 {α : Type} {n : Nat} (v : Vector α n) (i j : Nat) (x d : α) :
    at1 (put1 v i x) j d = if j = i ∧ 1 ≤ i ∧ i ≤ n then x else at1 v j d := by
  unfold at1 put1
  by_cases hi : i = 0
  · simp [hi]
  by_cases hj : j = 0
  · simp [hj, Ne.symm hi]
  simp only [hi, hj, if_false, vector_getD, Vector.getElem?_setIfInBounds]
  by_cases hji : j = i
  · subst hji
    by_cases hn : j ≤ n
    · have : j - 1 < n := by omega
      have hp : 1 ≤ j := by omega
      simp [this, hn, hp]
    · have h1 : ¬ j - 1 < n := by omega
      simp [h1, hn]
  · have : i - 1 ≠ j - 1 := by omega
    simp [hji, this]

/-- Reading the entry just written. -/
theorem at1_put1_same {α : Type} {n : Nat} (v : Vector α n) (i : Nat) (x d : α) (h : 1 ≤ i) (hn : i ≤ n) :
    at1 (put1 v i x) i d = x := by simp [at1_put1, h, hn]

/-- Every other entry stays. -/
theorem at1_put1_ne {α : Type} {n : Nat} (v : Vector α n) {i j : Nat} (x d : α) (h : j ≠ i) :
    at1 (put1 v i x) j d = at1 v j d := by simp [at1_put1, h]

/-- An entry outside the table is its default. -/
theorem at1_outside {α : Type} {n : Nat} (v : Vector α n) {i : Nat} (d : α) (h : i = 0 ∨ n < i) : at1 v i d = d := by
  unfold at1
  by_cases hi : i = 0
  · simp [hi]
  · have h1 : ¬ i - 1 < n := by omega
    simp [hi, vector_getD, h1]

/-! ### Lines, queues, calibration, curves -/

theorem State.line_setLine (s : State) (u v : Nat) (l : Line) :
    (s.setLine u l).line v = if v = u ∧ 1 ≤ u ∧ u ≤ 8 then l else s.line v := by
  simp [State.line, State.setLine, at1_put1]

theorem State.queue_dequeue (s : State) (u v z : Nat) :
    (s.dequeue u z).queue v =
      if v = u ∧ 1 ≤ u ∧ u ≤ 8 then (s.queue u).filter (fun y => y != z) else s.queue v := by
  simp [State.queue, State.dequeue, at1_put1]

theorem State.startWarmUp_queue (s : State) (v : Nat) : s.startWarmUp.queue v = s.queue v := by
  simp [State.queue]

theorem State.queue_enqueue (s : State) (u v z : Nat) :
    (s.enqueue u z).queue v = if v = u ∧ 1 ≤ u ∧ u ≤ 8 then s.queue u ++ [z] else s.queue v := by
  unfold State.enqueue
  dsimp only
  split
  · rw [State.startWarmUp_queue]; simp [State.queue, at1_put1]
  · simp [State.queue, at1_put1]

/-- What joining a queue does to the supply (R159, R160). -/
theorem State.supply_enqueue (s : State) (u z : Nat) :
    (s.enqueue u z).supply =
      if s.supply.state = .off ∧ s.queue u = [] then
        if s.supply.ok.filtered then { s.supply with state := .on, warmUp := none, standby := none }
        else { s.supply with state := .warming, warmUp := some s.clock.now.ms, standby := none }
      else { s.supply with standby := none } := by
  unfold State.enqueue State.startWarmUp
  dsimp only
  by_cases h : s.supply.state = .off <;> by_cases hq : s.queue u = [] <;> by_cases ho : s.supply.ok.filtered = true <;>
    simp [h, hq, ho]

theorem calAt_putCal (t : Vector (Vector CalEntry 36) 8) (u z v y : Nat) (e : CalEntry) :
    calAt (putCal t u z e) v y = if v = u ∧ y = z ∧ 1 ≤ u ∧ u ≤ 8 ∧ 1 ≤ z ∧ z ≤ 36 then e else calAt t v y := by
  unfold calAt putCal
  simp only [at1_put1]
  by_cases hv : v = u
  · subst hv
    by_cases h8 : 1 ≤ v ∧ v ≤ 8 <;> simp [h8, at1_put1]
    intro _ h1 h2; omega
  · simp [hv]

theorem State.calEntry_setCalEntry (s : State) (u z v y : Nat) (e : CalEntry) (hu : 1 ≤ u ∧ u ≤ 8) (hz : 1 ≤ z ∧ z ≤ 36) :
    (s.setCalEntry u z e).calEntry v y = if v = u ∧ y = z then e else s.calEntry v y := by
  simp [State.calEntry, State.setCalEntry, calAt_putCal, hu, hz]

theorem State.curve?_setCurve (s : State) (k i : Nat) (c : Option Curve) (h : k ≤ 15) :
    (s.setCurve k c).curve? i = if i = k then c else s.curve? i := by
  unfold State.curve? State.setCurve
  have hk : k < 16 := by omega
  simp only [vector_getD, Vector.getElem?_setIfInBounds]
  by_cases hi : k = i
  · subst hi; simp [hk]
  · simp [hi, Ne.symm hi]

/-! ### The kept tables -/

@[simp] theorem Kept.store_underWay (t : Kept) (w : TableWrite) : (t.store w).underWay = t.underWay := by cases w <;> rfl

/-- An execution that has written neither table leaves the account of the kept tables as it is. -/
theorem Kept.finish_of_none {k : Kept} {p : Port} (h : ∀ e ∈ k.underWay, e.1 ≠ p) : k.finish p = k := by
  have h' : k.underWay.dropWhile (fun e => e.1 != p) = [] := by
    simpa [List.dropWhile_eq_nil_iff] using h
  simp [Kept.finish, h']

/-- What the end of an execution does to the account: its write is stored, those to the same entry executed before it are
dropped, and those executed after it stay. -/
theorem Kept.finish_of_split {k : Kept} {p : Port} {w : TableWrite} {before after : List (Port × TableWrite)}
    (hk : k.underWay = before ++ (p, w) :: after) (h : ∀ e ∈ before, e.1 ≠ p) :
    k.finish p = { k.store w with underWay := before.filter (fun e => !e.2.sameEntry w) ++ after } := by
  have hb : ∀ e ∈ before, (fun e : Port × TableWrite => e.1 != p) e = true := by simpa using h
  unfold Kept.finish
  rw [hk, List.dropWhile_append_of_pos hb, List.takeWhile_append_of_pos hb]
  simp

/-- The end of an execution touches the account of the kept tables alone, and that of a port that is not BUSY nothing. -/
theorem State.commit_of_busy {s : State} {p : Port} (h : (s.port p).isBusy = true) :
    s.commit p = { s with kept := s.kept.finish p } := by simp [State.commit, h]
theorem State.commit_of_free {s : State} {p : Port} (h : (s.port p).isBusy = false) : s.commit p = s := by
  simp [State.commit, h]

/-- Reading a kept curve slot after an entry is stored. -/
theorem Kept.curves_store (t : Kept) (w : TableWrite) (i : Nat) :
    (t.store w).curves.getD i none =
      match w with
      | .curve k c => if i = k ∧ k < 16 then c else t.curves.getD i none
      | .cal _ _ _ => t.curves.getD i none := by
  cases w with
  | cal u z e => rfl
  | curve k c =>
    simp only [Kept.store, vector_getD, Vector.getElem?_setIfInBounds]
    by_cases hi : k = i
    · subst hi; by_cases hk : k < 16 <;> simp [hk]
    · simp [hi, Ne.symm hi]

/-- Reading a kept calibration entry after an entry is stored. -/
theorem Kept.cal_store (t : Kept) (w : TableWrite) (v y : Nat) :
    calAt (t.store w).cal v y =
      match w with
      | .curve _ _ => calAt t.cal v y
      | .cal u z e => if v = u ∧ y = z ∧ 1 ≤ u ∧ u ≤ 8 ∧ 1 ≤ z ∧ z ≤ 36 then e else calAt t.cal v y := by
  cases w with
  | curve k c => rfl
  | cal u z e => exact calAt_putCal _ _ _ _ _ _

/-! ### Zone records -/

theorem ZoneRec.isZone_iff (r : ZoneRec) (u z : Nat) : r.isZone u z = true ↔ r.unit = u ∧ r.zone = z := by
  simp [ZoneRec.isZone]

/-- A record found is in the table and stands for its zone. -/
theorem State.zone?_some {s : State} {u z : Nat} {r : ZoneRec} (h : s.zone? u z = some r) :
    r ∈ s.zones ∧ r.unit = u ∧ r.zone = z :=
  ⟨List.mem_of_find?_eq_some h, (r.isZone_iff u z).1 (List.find?_some (p := fun q : ZoneRec => q.isZone u z) h)⟩

theorem find?_map_isZone (l : List ZoneRec) (f : ZoneRec → ZoneRec) (u z : Nat)
    (h : ∀ r, (f r).unit = r.unit ∧ (f r).zone = r.zone) :
    (l.map f).find? (fun r => r.isZone u z) = (l.find? (fun r => r.isZone u z)).map f := by
  induction l with
  | nil => rfl
  | cons a l ih =>
    have ha : (f a).isZone u z = a.isZone u z := by simp [ZoneRec.isZone, h a]
    simp only [List.map_cons, List.find?_cons, ha]
    cases a.isZone u z <;> simp [ih]

/-- Reading a zone after a change of one zone that keeps its place in the table. -/
theorem State.zone?_modZone (s : State) (u z v y : Nat) (f : ZoneRec → ZoneRec)
    (h : ∀ r, (f r).unit = r.unit ∧ (f r).zone = r.zone) :
    (s.modZone u z f).zone? v y = if v = u ∧ y = z then (s.zone? v y).map f else s.zone? v y := by
  unfold State.zone? State.modZone
  rw [find?_map_isZone]
  · cases hf : s.zones.find? (fun r => r.isZone v y) with
    | none => simp
    | some r =>
      have hr := (r.isZone_iff v y).1 (List.find?_some (p := fun q : ZoneRec => q.isZone v y) hf)
      by_cases hc : v = u ∧ y = z
      · obtain ⟨rfl, rfl⟩ := hc; simp [ZoneRec.isZone, hr]
      · have : ¬ (r.unit = u ∧ r.zone = z) := by rw [hr.1, hr.2]; exact hc
        simp [ZoneRec.isZone, this, hc]
  · intro r; split <;> simp [h r]

/-- The pairs of the table stay as they are through a change that keeps the record's place. -/
theorem State.modZone_pairs (s : State) (u z : Nat) (f : ZoneRec → ZoneRec)
    (h : ∀ r, (f r).unit = r.unit ∧ (f r).zone = r.zone) :
    (s.modZone u z f).zones.map (fun r => (r.unit, r.zone)) = s.zones.map (fun r => (r.unit, r.zone)) := by
  simp only [State.modZone, List.map_map]
  apply List.map_congr_left
  intro r _
  dsimp only [Function.comp]
  split <;> simp [h r]

/-- A record of the changed table is a record of the old one, changed where it stands for the zone. -/
theorem State.mem_modZone {s : State} {u z : Nat} {f : ZoneRec → ZoneRec} {r : ZoneRec} :
    r ∈ (s.modZone u z f).zones ↔ ∃ q ∈ s.zones, r = if q.isZone u z then f q else q := by
  simp only [State.modZone, List.mem_map]
  constructor <;> rintro ⟨q, hq, h⟩ <;> exact ⟨q, hq, h.symm⟩

@[simp] theorem ZoneRec.rest_unit (r : ZoneRec) (k : KeyState) (c : Option FaultCause) : (r.rest k c).unit = r.unit := rfl
@[simp] theorem ZoneRec.rest_zone (r : ZoneRec) (k : KeyState) (c : Option FaultCause) : (r.rest k c).zone = r.zone := rfl
@[simp] theorem ZoneRec.rest_state (r : ZoneRec) (k : KeyState) (c : Option FaultCause) : (r.rest k c).state = k := rfl
@[simp] theorem ZoneRec.rest_target (r : ZoneRec) (k : KeyState) (c : Option FaultCause) : (r.rest k c).target = r.target := rfl
@[simp] theorem ZoneRec.rest_measured (r : ZoneRec) (k : KeyState) (c : Option FaultCause) :
    (r.rest k c).measured = r.measured := rfl

end Sys2Proof.Machine
end

