-- ==== Sys2Proof/Laws/Kept.lean ====
section
/-! SUPPORT. The account of the tables a reset keeps: writes of other entries commute, one of the same entry replaces, and
the end of an execution leaves the account's replay as it is (R172, R174, R178; log 7). -/

namespace Sys2Proof.Machine

/-- Tables of calibration entries that read alike are equal. -/
theorem cal_ext {a b : Vector (Vector CalEntry 36) 8} (h : ∀ u z, calAt a u z = calAt b u z) : a = b := by
  ext i hi j hj : 2
  have hx := h (i + 1) (j + 1)
  simpa [calAt, at1, vector_getD, hi, hj] using hx

/-- Curve tables that read alike are equal. -/
theorem curves_ext {a b : Vector (Option Curve) 16} (h : ∀ k, a.getD k none = b.getD k none) : a = b := by
  ext1 i hi
  simpa [vector_getD, hi] using h i

/-- Two accounts that read alike are equal. -/
theorem Kept.ext_reads {a b : Kept} (hc : ∀ u z, calAt a.cal u z = calAt b.cal u z)
    (hk : ∀ k, a.curves.getD k none = b.curves.getD k none) (hw : a.underWay = b.underWay) : a = b := by
  cases a; cases b
  simp only [Kept.mk.injEq]
  exact ⟨cal_ext hc, curves_ext hk, hw⟩

/-- Writes of different entries commute. -/
theorem Kept.store_comm (k : Kept) {v w : TableWrite} (h : v.sameEntry w = false) :
    (k.store v).store w = (k.store w).store v := by
  refine Kept.ext_reads (fun u z => ?_) (fun i => ?_) (by simp)
  · simp only [Kept.cal_store]
    cases v <;> cases w <;> simp_all [TableWrite.sameEntry]
    grind
  · simp only [Kept.curves_store]
    cases v <;> cases w <;> simp_all [TableWrite.sameEntry]
    grind

/-- A write replaces an earlier one of the same entry. -/
theorem Kept.store_store (k : Kept) {v w : TableWrite} (h : v.sameEntry w = true) :
    (k.store v).store w = k.store w := by
  refine Kept.ext_reads (fun u z => ?_) (fun i => ?_) (by simp)
  · simp only [Kept.cal_store]
    cases v <;> cases w <;> simp_all [TableWrite.sameEntry]
  · simp only [Kept.curves_store]
    cases v <;> cases w <;> simp_all [TableWrite.sameEntry]

/-- A write after others leaves what it would leave before them, those of its own entry left out. -/
theorem Kept.store_after (w : TableWrite) (l : List (Port × TableWrite)) (k : Kept) :
    (l.foldl (fun k e => k.store e.2) k).store w =
      (l.filter (fun e => !e.2.sameEntry w)).foldl (fun k e => k.store e.2) (k.store w) := by
  induction l generalizing k with
  | nil => rfl
  | cons e l ih =>
    cases h : e.2.sameEntry w with
    | true => simp [h, ih, Kept.store_store k h]
    | false => simp [h, ih, Kept.store_comm k h]

theorem Kept.store_withWrites (k : Kept) (w : TableWrite) (x : List (Port × TableWrite)) :
    ({ k with underWay := x } : Kept).store w = { k.store w with underWay := x } := by cases w <;> rfl

theorem Kept.foldl_withWrites (l : List (Port × TableWrite)) (k : Kept) (x : List (Port × TableWrite)) :
    l.foldl (fun k e => k.store e.2) { k with underWay := x } =
      { l.foldl (fun k e => k.store e.2) k with underWay := x } := by
  induction l generalizing k with
  | nil => rfl
  | cons e l ih => simp only [List.foldl_cons, Kept.store_withWrites, ih]

end Sys2Proof.Machine

namespace Sys2Proof.Safety

open Sys2Proof.Machine

/-- A request that begins to execute adds its write to the replay. -/
theorem replayed_note (k : Kept) (p : Port) (w : TableWrite) :
    (replayed (k.note p (some w))).cal = ((replayed k).store w).cal ∧
      (replayed (k.note p (some w))).curves = ((replayed k).store w).curves := by
  simp [replayed, Kept.note, Kept.foldl_withWrites, Kept.store_withWrites]

/-- The end of an execution leaves the replay as it is. -/
theorem replayed_finish (k : Kept) (p : Port) :
    (replayed (k.finish p)).cal = (replayed k).cal ∧ (replayed (k.finish p)).curves = (replayed k).curves := by
  by_cases h : ∀ e ∈ k.underWay, e.1 ≠ p
  · rw [Kept.finish_of_none h]; exact ⟨rfl, rfl⟩
  · obtain ⟨⟨q, w⟩, after, hd⟩ : ∃ e after, k.underWay.dropWhile (fun e => e.1 != p) = e :: after := by
      cases hd : k.underWay.dropWhile (fun e => e.1 != p) with
      | nil => exact absurd (by simpa [List.dropWhile_eq_nil_iff] using hd) h
      | cons e after => exact ⟨e, after, rfl⟩
    have hk : k.underWay = k.underWay.takeWhile (fun e => e.1 != p) ++ (q, w) :: after := by
      rw [← hd, List.takeWhile_append_dropWhile]
    have hr : replayed k =
        after.foldl (fun k e => k.store e.2)
          (((k.underWay.takeWhile (fun e => e.1 != p)).foldl (fun k e => k.store e.2) k).store w) := by
      unfold replayed
      conv_lhs => rw [hk]
      simp only [List.foldl_append, List.foldl_cons]
    simp only [hr, Kept.finish, hd]
    simp [replayed, Kept.foldl_withWrites, Kept.store_after]

end Sys2Proof.Safety
end

