-- ==== Sys2Proof/Laws/Ports.lean ====
section
/-! SUPPORT. What the ports' operations do: reading one port after a change, taking a frame, judging a request. -/

namespace Sys2Proof.Machine

/-! ### One port -/

@[simp] theorem Ports.get_set (ps : Ports) (p q : Port) (c : PortCtl) :
    (ps.set p c).get q = if q = p then c else ps.get q := by
  cases p <;> cases q <;> rfl

@[simp] theorem State.port_modPort (s : State) (p q : Port) (f : PortCtl → PortCtl) :
    (s.modPort p f).port q = if q = p then f (s.port p) else s.port q := by
  simp [State.port, State.modPort]

/-- Two changes of one port are one. -/
theorem State.modPort_modPort (s : State) (p : Port) (f g : PortCtl → PortCtl) :
    (s.modPort p f).modPort p g = s.modPort p (fun c => g (f c)) := by cases p <;> rfl

/-- A change that keeps the port's state keeps the part's. -/
theorem State.modPort_self {s : State} {p : Port} {f : PortCtl → PortCtl} (h : f (s.port p) = s.port p) :
    s.modPort p f = s := by
  cases p <;> simp only [State.modPort, State.port] at h ⊢ <;> rw [h] <;> rfl

/-- Only the port's own state counts for a change of it. -/
theorem State.modPort_congr {s : State} {p : Port} {f g : PortCtl → PortCtl} (h : f (s.port p) = g (s.port p)) :
    s.modPort p f = s.modPort p g := by
  simp only [State.modPort]; simp only [State.port] at h; rw [h]

/-- Fields of the state that the ports read stay the same when another field is written. -/
@[simp] theorem State.port_eq_of_ports {s t : State} (h : t.ports = s.ports) (p : Port) : t.port p = s.port p := by
  simp [State.port, h]

/-! ### Postings -/

/-- A posting changes the notice sets of its ports alone. -/
theorem State.post_port (s : State) (k : Notice) (p : Port) :
    (s.post k).port p =
      if p ∈ noticePorts k then { s.port p with notices := (s.port p).notices ||| noticeWord k } else s.port p := by
  cases k <;> cases p <;> rfl

/-- A posting keeps command state, dropped flag, mask, switch and shifted words of every port. -/
theorem State.post_port_frame (s : State) (k : Notice) (p : Port) :
    (s.post k).port p = { s.port p with notices := ((s.post k).port p).notices } := by
  cases k <;> cases p <;> rfl

/-! ### What an execution has written -/

/-- What a request that has written nothing adds to the account of the kept tables, and what one that has. -/
@[simp] theorem Kept.note_none (k : Kept) (p : Port) : k.note p none = k := rfl
@[simp] theorem Kept.note_cal (k : Kept) (p : Port) (w : Option TableWrite) : (k.note p w).cal = k.cal := by cases w <;> rfl
@[simp] theorem Kept.note_curves (k : Kept) (p : Port) (w : Option TableWrite) : (k.note p w).curves = k.curves := by
  cases w <;> rfl
theorem Kept.underWay_note (k : Kept) (p : Port) (w : Option TableWrite) :
    (k.note p w).underWay = k.underWay ++ w.toList.map (fun v => (p, v)) := by
  cases w <;> simp [Kept.note]

/-- A port that begins an execution keeps dropped flag, notices, mask, switch and shifted words. -/
theorem State.port_beginExecution (s : State) (p q : Port) (code : BitVec 8) (tag : BitVec 4) (a : Answer)
    (w : Option TableWrite) :
    (s.beginExecution p code tag a w).port q =
      if q = p then { s.port p with cmd := .busy ⟨code, tag, a.outcome, a.data⟩ false } else s.port q := by
  cases p <;> cases q <;> rfl

/-- A request other than DEFINE CURVE, DELETE CURVE and SET KEY CAL writes neither table. -/
theorem tableWrite_of_other {q : Req} (ws : List Word) (o : ResultCode) (t : State) (h1 : q ≠ .defineCurve)
    (h2 : q ≠ .deleteCurve) (h3 : q ≠ .setKeyCal) : tableWrite q ws o t = none := by
  cases q <;> simp_all [tableWrite]

/-- A refused request writes neither table. -/
theorem tableWrite_of_refusal (q : Req) (ws : List Word) {o : ResultCode} (t : State) (h : o ≠ .ok) :
    tableWrite q ws o t = none := by simp [tableWrite, h]

/-! ### Taking a frame -/

/-- A frame clocked outside RUNNING reads all ones. -/
theorem takeRequest_of_not_running {s : State} (f : Frame) (take : State → State) (h : s.press.phase ≠ .running) :
    takeRequest f take s = .next (s.shiftOnes f.port (frameClocked f)) := by
  simp [takeRequest, State.isRunning, h]

/-- A frame clocked at a BUSY port is discarded. -/
theorem takeRequest_of_busy {s : State} (f : Frame) (take : State → State) (h : s.press.phase = .running)
    (hb : (s.port f.port).isBusy = true) : takeRequest f take s = .next ((s.shiftZero f.port).setDropped f.port) := by
  simp [takeRequest, State.isRunning, h, hb]

/-- A frame clocked at a port that is not BUSY, while RUNNING, is taken. -/
theorem takeRequest_of_free {s : State} (f : Frame) (take : State → State) (h : s.press.phase = .running)
    (hb : (s.port f.port).isBusy = false) : takeRequest f take s = .next (take (s.shiftZero f.port)) := by
  simp [takeRequest, State.isRunning, h, hb]

theorem PortCtl.isBusy_iff (c : PortCtl) : c.isBusy = true ↔ ∃ r b, c.cmd = .busy r b := by
  unfold PortCtl.isBusy; split <;> simp_all

theorem State.isRunning_iff (s : State) : s.isRunning = true ↔ s.press.phase = .running := by simp [State.isRunning]

/-! ### Judging a request -/

/-- A request refused by the Port Controller leaves the answer and nothing else. -/
theorem judged_of_refusal {q : Req} {f : Frame} {s : State} {a : Answer} (body : List Word → State → State × Answer)
    (h : frameRefusal q f s.device = some a) : judged q f body s = s.beginExecution f.port (reqCode q) f.tag a none := by
  simp [judged, h]

/-- A request that passes steps 1 to 4 of R177 has the effect and the answer of its own meaning. -/
theorem judged_of_accept {q : Req} {f : Frame} {s : State} (body : List Word → State → State × Answer)
    (h : frameRefusal q f s.device = none) :
    judged q f body s = (body f.words s).1.beginExecution f.port (reqCode q) f.tag (body f.words s).2
      (tableWrite q f.words (body f.words s).2.outcome (body f.words s).1) := by
  simp [judged, h]

/-- The frame passes steps 2 to 4 of R177 exactly when it matches, its port is allowed and the device is configured where
it must be. -/
theorem frameRefusal_eq_none {q : Req} {f : Frame} {d : DeviceState} :
    frameRefusal q f d = none ↔
      frameMatches q f = true ∧ reqAllowed q f.port = true ∧ (reqNeedsConfigured q = true → d ≠ .unconfigured) := by
  unfold frameRefusal
  cases frameMatches q f <;> cases reqAllowed q f.port <;> cases reqNeedsConfigured q <;> cases d <;> simp

/-- The frame matches exactly when its count is there, whole, equal to the words clocked and required, and at most 128. -/
theorem frameMatches_iff {q : Req} {f : Frame} :
    frameMatches q f = true ↔
      ∃ l : Word, f.declared = some l ∧ f.partialWord = false ∧ f.words.length = l.toNat ∧ l.toNat ≤ 128 ∧
        reqOperands q f.words = some l.toNat := by
  unfold frameMatches
  cases f.declared with
  | none => simp
  | some l =>
    simp only [Bool.and_eq_true, Bool.not_eq_true', beq_iff_eq, decide_eq_true_eq, and_assoc, Option.some.injEq,
      exists_eq_left']
    exact Iff.rfl

/-- A request taken at a free port keeps the queue of commands wherever its meaning does. -/
theorem judged_pending {q : Req} {f : Frame} {s : State} {body : List Word → State → State × Answer}
    (h : (body f.words s).1.pending = s.pending) : (judged q f body s).pending = s.pending := by
  unfold judged; split <;> simp [State.beginExecution, h]

end Sys2Proof.Machine
end

