-- ==== Sys2Proof/Laws/Scheduler.lean ====
section
/-! SUPPORT. What the operations of the Move Scheduler can change: zone records in their places, queues, supply, notice
sets and the preset tracking flag. -/

namespace Sys2Proof.Machine

/-- The two states differ in zone records, queues, supply state and timers, notice sets and the preset flag alone, and the
records stand for the same zones. -/
structure Moves (s t : State) : Prop where
  rest : t = { s with ports := t.ports, zones := t.zones, queues := t.queues, supply := t.supply, preset := t.preset }
  pairs : t.zones.map (fun r => (r.unit, r.zone)) = s.zones.map (fun r => (r.unit, r.zone))
  ok : t.supply.ok = s.supply.ok
  ports : ∀ p, t.port p = { s.port p with notices := (t.port p).notices }

theorem Moves.refl (s : State) : Moves s s := ⟨rfl, rfl, rfl, fun _ => rfl⟩

theorem Moves.trans {s t v : State} (a : Moves s t) (b : Moves t v) : Moves s v where
  rest := by rw [b.rest, a.rest]
  pairs := b.pairs.trans a.pairs
  ok := b.ok.trans a.ok
  ports p := by rw [b.ports p, a.ports p]

/-! ### The basic operations -/

theorem moves_modZone (s : State) (u z : Nat) (f : ZoneRec → ZoneRec)
    (h : ∀ r, (f r).unit = r.unit ∧ (f r).zone = r.zone) : Moves s (s.modZone u z f) :=
  ⟨rfl, s.modZone_pairs u z f h, rfl, fun _ => rfl⟩

theorem moves_dequeue (s : State) (u z : Nat) : Moves s (s.dequeue u z) := ⟨rfl, rfl, rfl, fun _ => rfl⟩

theorem moves_post (s : State) (k : Notice) : Moves s (s.post k) :=
  ⟨by cases k <;> rfl, by simp, by simp, s.post_port_frame k⟩

theorem moves_startWarmUp (s : State) : Moves s s.startWarmUp := by
  unfold State.startWarmUp; split <;> exact ⟨rfl, rfl, rfl, fun _ => rfl⟩

theorem moves_enqueue (s : State) (u z : Nat) : Moves s (s.enqueue u z) := by
  have h : Moves s { s with
      queues := put1 s.queues u (s.queue u ++ [z]), supply := { s.supply with standby := none } } :=
    ⟨rfl, rfl, rfl, fun _ => rfl⟩
  unfold State.enqueue
  dsimp only
  split
  · exact h.trans (moves_startWarmUp _)
  · exact h

theorem moves_standbyRefresh (s : State) : Moves s s.standbyRefresh := by
  unfold State.standbyRefresh; split <;> exact ⟨rfl, rfl, rfl, fun _ => rfl⟩

theorem moves_presetTest (s : State) : Moves s s.presetTest := by
  unfold State.presetTest
  split
  · exact (moves_post s .presetDone).trans ⟨rfl, rfl, rfl, fun _ => rfl⟩
  · exact .refl s

theorem moves_settle (s : State) : Moves s s.settle := (moves_standbyRefresh s).trans (moves_presetTest _)

/-! ### Entering a key state, evaluation, batches -/

/-- Entering a key state changes what a Moves allows, for a `g` that keeps the record's place. -/
theorem moves_enter (s : State) (u z : Nat) (k : KeyState) (c : Option FaultCause) (g : ZoneRec → ZoneRec)
    (h : ∀ r, (g r).unit = r.unit ∧ (g r).zone = r.zone) : Moves s (s.enter u z k c g) := by
  unfold State.enter
  split
  · exact .refl s
  · rename_i r _
    have h1 : Moves s (s.modZone u z (fun r => g (r.rest k c))) := moves_modZone _ _ _ _ (fun r => by simp [h])
    dsimp only
    have h2 : ∀ t, Moves s t → Moves s (if r.state = .queued then t.dequeue u z else t) := fun t ht => by
      split
      · exact ht.trans (moves_dequeue _ _ _)
      · exact ht
    have h3 : ∀ t, Moves s t → Moves s (if k = .queued then t.enqueue u z else t) := fun t ht => by
      split
      · exact ht.trans (moves_enqueue _ _ _)
      · exact ht
    have h4 : ∀ t, Moves s t → Moves s (if k.alerts then t.post .keyAlert else t) := fun t ht => by
      split
      · exact ht.trans (moves_post _ _)
      · exact ht
    have h5 : ∀ t, Moves s t →
        Moves s (if r.state = .unknown ∧ k ≠ .unknown ∧ t.noneUnknown then t.post .surveyDone else t) := fun t ht => by
      split
      · exact ht.trans (moves_post _ _)
      · exact ht
    exact h5 _ (h4 _ (h3 _ (h2 _ h1)))

theorem moves_evaluate (s : State) (u z : Nat) : Moves s (s.evaluate u z) := by
  unfold State.evaluate
  repeat' split
  all_goals first | exact .refl s | exact moves_enter _ _ _ _ _ _ (fun _ => ⟨rfl, rfl⟩)

theorem moves_requeue (s : State) (u z : Nat) : Moves s (s.requeue u z) := by
  unfold State.requeue
  split
  · exact .refl s
  · exact moves_enter _ _ _ _ _ _ (fun _ => ⟨rfl, rfl⟩)

theorem moves_retarget (s : State) (u z : Nat) : Moves s (s.retarget u z) := by
  unfold State.retarget
  repeat' split
  all_goals
    first
      | exact .refl s
      | exact moves_evaluate s u z
      | exact moves_enter _ _ _ _ _ _ (fun _ => ⟨rfl, rfl⟩)
      | exact moves_modZone _ _ _ _ (fun _ => ⟨rfl, rfl⟩)

/-- A fold of operations that each change what a Moves allows. -/
theorem moves_foldl {α : Type} (f : State → α → State) (h : ∀ s a, Moves s (f s a)) (l : List α) (s : State) :
    Moves s (l.foldl f s) := by
  induction l generalizing s with
  | nil => exact .refl s
  | cons a l ih => exact (h s a).trans (ih (f s a))

/-- A batch changes what a Moves allows (R71, R112). -/
theorem moves_handBatch (s : State) (batch : List (Nat × Nat)) : Moves s (s.handBatch batch) := by
  unfold State.handBatch
  have h := moves_foldl (fun (t : State) (q : Nat × Nat) => t.retarget q.1 q.2) (fun t q => moves_retarget t q.1 q.2)
  exact (h batch s).trans (moves_settle _)

/-! ### FREEZE, supply loss and replies -/

theorem moves_freezeZone (s : State) (u z : Nat) : Moves s (s.freezeZone u z) := by
  unfold State.freezeZone
  repeat' split
  all_goals
    first
      | exact .refl s
      | exact moves_evaluate s u z
      | exact moves_requeue s u z
      | exact moves_modZone _ _ _ _ (fun _ => ⟨rfl, rfl⟩)

theorem moves_freezeAsserted (s : State) : Moves s s.freezeAsserted := by
  unfold State.freezeAsserted
  have h := moves_foldl (fun (t : State) (q : Nat × Nat) => t.freezeZone q.1 q.2) (fun t q => moves_freezeZone t q.1 q.2)
  exact (h s.zoneIds s).trans (moves_settle _)

theorem moves_loseZone (s : State) (u z : Nat) : Moves s (s.loseZone u z) := by
  unfold State.loseZone
  repeat' split
  all_goals first | exact .refl s | exact moves_requeue s u z

theorem moves_supplyLoss (s : State) : Moves s s.supplyLoss := by
  have h : Moves s { s with supply := { s.supply with state := .failed, warmUp := none, standby := none } } :=
    ⟨rfl, rfl, rfl, fun _ => rfl⟩
  unfold State.supplyLoss
  dsimp only
  have hf := moves_foldl (fun (t : State) (q : Nat × Nat) => t.loseZone q.1 q.2) (fun t q => moves_loseZone t q.1 q.2)
  exact ((h.trans (hf _ _)).trans (moves_post _ _)).trans (moves_settle _)

theorem moves_setPollDue (s : State) (u z : Nat) : Moves s (s.setPollDue u z) :=
  moves_modZone _ _ _ _ (fun r => by split <;> exact ⟨rfl, rfl⟩)

theorem moves_runningReply (s : State) (u z : Nat) (r : ZoneRec) (poll : Bool) : Moves s (s.runningReply u z r poll) := by
  unfold State.runningReply State.addTimeout
  repeat' split
  all_goals first | exact .refl s | exact moves_setPollDue s u z | exact moves_modZone _ _ _ _ (fun _ => ⟨rfl, rfl⟩)

theorem moves_retryFallsDue (s : State) (u z : Nat) : Moves s (s.retryFallsDue u z) := by
  have h : Moves s (s.modZone u z (fun r => { r with retries := r.retries + 1, retryDue := true, pollDue := none })) :=
    moves_modZone _ _ _ _ (fun _ => ⟨rfl, rfl⟩)
  unfold State.retryFallsDue
  dsimp only
  split
  · exact h.trans (moves_requeue _ _ _)
  · exact h

theorem moves_pollStopped (s : State) (u z : Nat) (r : ZoneRec) : Moves s (s.pollStopped u z r) := by
  unfold State.pollStopped
  repeat' split
  all_goals
    first
      | exact .refl s
      | exact moves_retryFallsDue s u z
      | exact moves_enter _ _ _ _ _ _ (fun _ => ⟨rfl, rfl⟩)

/-- Taking a valid reply changes what a Moves allows (R145). -/
theorem moves_takeReply (s : State) (u z : Nat) (r : ZoneRec) (v : Verb) (st : Status) :
    Moves s (s.takeReply u z r v st) := by
  unfold State.takeReply State.unknownHaltReply State.surveyReply State.moveReply State.haltReply State.stall
    State.blockTimeout
  repeat' split
  all_goals
    first
      | exact .refl s
      | exact moves_evaluate s u z
      | exact moves_requeue s u z
      | exact moves_setPollDue s u z
      | exact moves_runningReply s u z r _
      | exact moves_pollStopped s u z r
      | exact moves_enter _ _ _ _ _ _ (fun _ => ⟨rfl, rfl⟩)
      | exact moves_modZone _ _ _ _ (fun _ => ⟨rfl, rfl⟩)

/-- Counting a failure changes what a Moves allows (R126). -/
theorem moves_takeFailure (s : State) (u z : Nat) (r : ZoneRec) (v : Verb) (saved : Option PollDue) :
    Moves s (s.takeFailure u z r v saved) := by
  have h : Moves s (s.modZone u z (fun r => { r with failures := r.failures + 1 })) :=
    moves_modZone _ _ _ _ (fun _ => ⟨rfl, rfl⟩)
  have ha : ∀ t : State, Moves t (t.afterFailure u z v saved) := by
    intro t
    unfold State.afterFailure
    repeat' split
    all_goals
      first
        | exact .refl t
        | exact moves_setPollDue t u z
        | exact moves_modZone _ _ _ _ (fun q => by split <;> exact ⟨rfl, rfl⟩)
  unfold State.takeFailure
  repeat' split
  all_goals
    first
      | exact .refl s
      | exact h.trans (ha _)
      | exact moves_enter _ _ _ _ _ _ (fun _ => ⟨rfl, rfl⟩)

/-- The end of a transaction changes what a Moves allows (R144 to R146). -/
theorem moves_takeVerdict (s : State) (u : Nat) (t : Txn) (v : Verdict) : Moves s (s.takeVerdict u t v) := by
  have hw : ∀ w p, Moves s (s.writeEcho u t.zone w p) := fun w p => moves_modZone _ _ _ _ (fun _ => ⟨rfl, rfl⟩)
  unfold State.takeVerdict
  split
  · exact .refl s
  · split
    · exact (moves_takeFailure _ _ _ _ _ _).trans (moves_settle _)
    · exact (moves_takeFailure _ _ _ _ _ _).trans (moves_settle _)
    · dsimp only
      split
      · exact hw _ _
      · exact ((hw _ _).trans (moves_takeReply _ _ _ _ _ _)).trans (moves_settle _)

end Sys2Proof.Machine
end

