-- ==== Sys2Proof/Laws/Lines.lean ====
section
/-! SUPPORT. What starting, running and ending a transaction can change. -/

namespace Sys2Proof.Machine

/-- The start of a transaction writes its line's controller alone (R134). -/
theorem startTransaction_frame (s : State) (u z : Nat) (v : Verb) (t : Option (BitVec 13)) (d : Option PollDue) :
    s.startTransaction u z v t d = { s with lines := (s.startTransaction u z v t d).lines } := rfl

/-- A turn or a grant differs from the state it starts in by what a Moves allows, the lines and the arbiter's pointer. -/
structure Turns (s t : State) : Prop where
  rest : t = { s with
    ports := t.ports, zones := t.zones, queues := t.queues, supply := t.supply, preset := t.preset
    lines := t.lines, pointer := t.pointer }
  pairs : t.zones.map (fun r => (r.unit, r.zone)) = s.zones.map (fun r => (r.unit, r.zone))
  ok : t.supply.ok = s.supply.ok

theorem Turns.refl (s : State) : Turns s s := ⟨rfl, rfl, rfl⟩

theorem Turns.trans {s t v : State} (a : Turns s t) (b : Turns t v) : Turns s v where
  rest := by rw [b.rest, a.rest]
  pairs := b.pairs.trans a.pairs
  ok := b.ok.trans a.ok

theorem Moves.turns {s t : State} (h : Moves s t) : Turns s t where
  rest := by rw [h.rest]
  pairs := h.pairs
  ok := h.ok

theorem turns_setLine (s : State) (u : Nat) (l : Line) : Turns s (s.setLine u l) := ⟨rfl, rfl, rfl⟩

theorem turns_startTransaction (s : State) (u z : Nat) (v : Verb) (t : Option (BitVec 13)) (d : Option PollDue) :
    Turns s (s.startTransaction u z v t d) := turns_setLine _ _ _

theorem turns_startPoll (s : State) (u z : Nat) (d : Option PollDue) : Turns s (s.startPoll u z d) :=
  (moves_modZone s u z (fun r => { r with pollDue := none }) (fun _ => ⟨rfl, rfl⟩)).turns.trans
    (turns_startTransaction _ _ _ _ _ _)

theorem turns_startRetry (s : State) (u z : Nat) : Turns s (s.startRetry u z) :=
  (moves_modZone s u z (fun r => { r with retryDue := false, moveStart := some s.clock.now.ms })
    (fun _ => ⟨rfl, rfl⟩)).turns.trans (turns_startTransaction _ _ _ _ _ _)

theorem turns_grantTo (s : State) (u : Nat) : Turns s (s.grantTo u) := by
  unfold State.grantTo
  split
  · exact .refl s
  · rename_i z _ _
    have h1 := (moves_dequeue s u z).trans (moves_modZone (s.dequeue u z) u z
      (fun r => { r with state := .moving, moveStart := some s.clock.now.ms }) (fun _ => ⟨rfl, rfl⟩))
    have h2 : ∀ t : State, Turns t { t with pointer := u } := fun _ => ⟨rfl, rfl, rfl⟩
    exact (h1.turns.trans (h2 _)).trans (turns_startTransaction _ _ _ _ _ _)

/-- The second place of a turn, over any list of zones. -/
theorem turns_pollsAndRetries (u : Nat) (zs : List Nat) (s : State) : Turns s (pollsAndRetries u zs s).1 := by
  induction zs generalizing s with
  | nil => exact .refl s
  | cons z rest ih =>
    unfold pollsAndRetries
    split
    · exact ih s
    · split
      · exact turns_startPoll s u z _
      · split
        · split
          · exact (moves_evaluate s u z).turns.trans (ih _)
          · split
            · exact (moves_requeue s u z).turns.trans (ih _)
            · split
              · exact ih s
              · exact turns_startRetry s u z
        · exact ih s

theorem turns_moveOrSurvey (s : State) (u : Nat) : Turns s (s.moveOrSurvey u) := by
  unfold State.moveOrSurvey
  repeat' split
  all_goals first | exact .refl s | exact turns_grantTo s u | exact turns_startTransaction _ _ _ _ _ _

/-- A turn (R149). -/
theorem turns_turn (s : State) (u : Nat) : Turns s (s.turn u) := by
  unfold State.turn
  split
  · split
    · exact turns_startTransaction _ _ _ _ _ _
    · have h := turns_pollsAndRetries u ((s.unitZones u).map ZoneRec.zone) s
      dsimp only
      split
      · exact h.trans (moves_settle _).turns
      · exact (h.trans (turns_moveOrSurvey _ u)).trans (moves_settle _).turns
  · exact .refl s

/-! ### The key lines after a turn -/

/-- The lines are as they were, or line u alone has started a transaction (R134, R149). -/
def StartsAtMost (u : Nat) (s t : State) : Prop :=
  t.lines = s.lines ∨ ∃ z v ticks saved, t.lines = (s.startTransaction u z v ticks saved).lines

theorem Moves.lines {s t : State} (h : Moves s t) : t.lines = s.lines := by rw [h.rest]
theorem Moves.clock {s t : State} (h : Moves s t) : t.clock = s.clock := by rw [h.rest]

/-- A transaction's start depends on the lines and the clock alone. -/
theorem startTransaction_lines {s t : State} (hl : t.lines = s.lines) (hc : t.clock = s.clock) (u z : Nat) (v : Verb)
    (ticks : Option (BitVec 13)) (saved : Option PollDue) :
    (t.startTransaction u z v ticks saved).lines = (s.startTransaction u z v ticks saved).lines := by
  simp only [State.startTransaction, State.setLine, State.line, hl, hc]

theorem StartsAtMost.after {u : Nat} {s t v : State} (h : StartsAtMost u t v) (hl : t.lines = s.lines)
    (hc : t.clock = s.clock) : StartsAtMost u s v := by
  rcases h with h | ⟨z, w, ticks, saved, h⟩
  · exact .inl (h.trans hl)
  · exact .inr ⟨z, w, ticks, saved, h.trans (startTransaction_lines hl hc ..)⟩

theorem startsAtMost_grantTo (s : State) (u : Nat) : StartsAtMost u s (s.grantTo u) := by
  unfold State.grantTo
  split
  · exact .inl rfl
  · exact .inr ⟨_, _, _, _, startTransaction_lines rfl rfl ..⟩

theorem startsAtMost_pollsAndRetries (u : Nat) (zs : List Nat) (s : State) :
    StartsAtMost u s (pollsAndRetries u zs s).1 ∧
      ((pollsAndRetries u zs s).2 = false →
        (pollsAndRetries u zs s).1.lines = s.lines ∧ (pollsAndRetries u zs s).1.clock = s.clock) := by
  induction zs generalizing s with
  | nil => exact ⟨.inl rfl, fun _ => ⟨rfl, rfl⟩⟩
  | cons z rest ih =>
    have pass {t : State} (h : Moves s t) :
        StartsAtMost u s (pollsAndRetries u rest t).1 ∧
          ((pollsAndRetries u rest t).2 = false →
            (pollsAndRetries u rest t).1.lines = s.lines ∧ (pollsAndRetries u rest t).1.clock = s.clock) :=
      ⟨(ih t).1.after h.lines h.clock, fun g => ⟨((ih t).2 g).1.trans h.lines, ((ih t).2 g).2.trans h.clock⟩⟩
    unfold pollsAndRetries
    split
    · exact ih s
    · split
      · exact ⟨.inr ⟨_, _, _, _, startTransaction_lines rfl rfl ..⟩, by simp⟩
      · split
        · split
          · exact pass (moves_evaluate s u z)
          · split
            · exact pass (moves_requeue s u z)
            · split
              · exact ih s
              · exact ⟨.inr ⟨_, _, _, _, startTransaction_lines rfl rfl ..⟩, by simp⟩
        · exact ih s

/-- A turn starts at most one transaction, on its own line (R149). -/
theorem startsAtMost_turn (s : State) (u : Nat) : StartsAtMost u s (s.turn u) := by
  unfold State.turn
  split
  · split
    · exact .inr ⟨_, _, _, _, rfl⟩
    · obtain ⟨h1, h2⟩ := startsAtMost_pollsAndRetries u ((s.unitZones u).map ZoneRec.zone) s
      dsimp only
      have settled {a b : State} (h : StartsAtMost u a b) : StartsAtMost u a b.settle := by
        unfold StartsAtMost; rwa [(moves_settle b).lines]
      split
      · exact settled h1
      · rename_i g
        obtain ⟨hl, hc⟩ := h2 (by simpa using g)
        refine settled (StartsAtMost.after ?_ hl hc)
        unfold State.moveOrSurvey
        split
        · exact startsAtMost_grantTo _ u
        · split
          · exact .inr ⟨_, _, _, _, rfl⟩
          · exact .inl rfl
  · exact .inl rfl

/-- The end of a transaction (R139, R143 to R146). -/
theorem turns_endTransaction (s : State) (u : Nat) (t : Txn) (v : Verdict) : Turns s (s.endTransaction u t v) :=
  (turns_setLine s u _).trans (moves_takeVerdict _ u t v).turns

end Sys2Proof.Machine
end

