-- ==== Sys2Proof/Laws/SetPoint.lean ====
section
/-! SUPPORT. The roundings and clamps, and what the set-point chain can change in a record. -/

namespace Sys2Proof.Machine

/-! ### Roundings and clamps -/

theorem roundHalfUp_mono {m n : Nat} (d : Nat) (h : m ≤ n) : roundHalfUp m d ≤ roundHalfUp n d :=
  Nat.div_le_div_right (by omega)

/-- A multiple of the denominator is rounded to its quotient. -/
theorem roundHalfUp_mul (k : Nat) {d : Nat} (h : 0 < d) : roundHalfUp (k * d) d = k := by
  unfold roundHalfUp
  have e : 2 * (k * d) + d = d + k * (2 * d) := by ring
  rw [e, Nat.add_mul_div_right _ _ (by omega), Nat.div_eq_of_lt (by omega), Nat.zero_add]

/-- A quotient between two integers is rounded to one between them. -/
theorem roundHalfUp_between {n d lo hi : Nat} (h : 0 < d) (hlo : lo * d ≤ n) (hhi : n ≤ hi * d) :
    lo ≤ roundHalfUp n d ∧ roundHalfUp n d ≤ hi := by
  constructor
  · have := roundHalfUp_mono d hlo; rwa [roundHalfUp_mul lo h] at this
  · have := roundHalfUp_mono d hhi; rwa [roundHalfUp_mul hi h] at this

theorem clampInt_between {lo hi : Int} (x : Int) (h : lo ≤ hi) : lo ≤ clampInt lo hi x ∧ clampInt lo hi x ≤ hi := by
  unfold clampInt; split_ifs <;> omega

theorem clampInt_of_within {lo hi x : Int} (h1 : lo ≤ x) (h2 : x ≤ hi) : clampInt lo hi x = x := by
  unfold clampInt; split_ifs <;> omega

theorem clampTarget_le (t : Int) : clampTarget t ≤ 500 := by
  have h := clampInt_between (lo := 0) (hi := 500) t (by omega)
  unfold clampTarget
  omega

/-! ### The set-point fields -/

/-- A set-point computation writes coverage, effective coverage, base, target and limit flag alone. -/
theorem setPoint_frame (s : State) (j : ActiveJob) (r : ZoneRec) :
    setPoint s j r =
      { r with
        coverage := (setPoint s j r).coverage, effective := (setPoint s j r).effective, base := (setPoint s j r).base
        target := (setPoint s j r).target, limit := (setPoint s j r).limit } := by
  unfold setPoint
  dsimp only
  repeat' split
  all_goals rfl

@[simp] theorem setPoint_unit (s : State) (j : ActiveJob) (r : ZoneRec) : (setPoint s j r).unit = r.unit := by
  rw [setPoint_frame]
@[simp] theorem setPoint_zone (s : State) (j : ActiveJob) (r : ZoneRec) : (setPoint s j r).zone = r.zone := by
  rw [setPoint_frame]
@[simp] theorem setPoint_state (s : State) (j : ActiveJob) (r : ZoneRec) : (setPoint s j r).state = r.state := by
  rw [setPoint_frame]

/-- A computed target is present and at most 500. -/
theorem setPoint_target (s : State) (j : ActiveJob) (r : ZoneRec) :
    ∃ t, (setPoint s j r).target = some t ∧ t ≤ 500 := by
  unfold setPoint
  dsimp only
  repeat' split
  · exact ⟨0, rfl, by omega⟩
  · exact ⟨0, rfl, by omega⟩
  · exact ⟨_, rfl, clampTarget_le _⟩

/-- A recomputation changes the zone records alone, and keeps their places. -/
theorem recompute_frame (s : State) (p : ZoneRec → Bool) :
    (s.recompute p).1 = { s with zones := (s.recompute p).1.zones } ∧
      (s.recompute p).1.zones.map (fun r => (r.unit, r.zone)) = s.zones.map (fun r => (r.unit, r.zone)) := by
  unfold State.recompute
  split
  · exact ⟨rfl, rfl⟩
  · refine ⟨rfl, ?_⟩
    simp only [List.map_map]
    apply List.map_congr_left
    intro r _
    dsimp only [Function.comp]
    split <;> simp

/-- With no active job nothing is recomputed (R65). -/
theorem recompute_of_no_job {s : State} (p : ZoneRec → Bool) (h : s.job = none) : s.recompute p = (s, []) := by
  simp [State.recompute, h]

/-- A batch names zones of the table alone, in its order (R71). -/
theorem changedTargets_sublist {old new : List ZoneRec}
    (h : new.map (fun r => (r.unit, r.zone)) = old.map (fun r => (r.unit, r.zone))) :
    (changedTargets old new).Sublist (old.map (fun r => (r.unit, r.zone))) := by
  have hl : new.length = old.length := by simpa using congrArg List.length h
  have hz : (old.zip new).map (fun q => (q.2.unit, q.2.zone)) = new.map (fun r => (r.unit, r.zone)) := by
    have : (old.zip new).map Prod.snd = new := List.map_snd_zip (by omega)
    conv_rhs => rw [← this]
    rw [List.map_map]; rfl
  unfold changedTargets
  rw [← h, ← hz]
  exact List.filter_sublist.map _

/-! ### The Loop Corrector -/

/-- A step never exceeds the step limit (R99). -/
theorem loopStep_between (l : LoopParams) (d : Int) : -(l.stepLimit : Int) ≤ loopStep l d ∧ loopStep l d ≤ l.stepLimit :=
  clampInt_between _ (by omega)

/-- A judged loop trim stays in −60 to +60 (R100). -/
theorem judgeZone_trim {l : LoopParams} {p : UnitParams} {sheet : BitVec 32} {w : Word} {r : ZoneRec}
    (h : -60 ≤ r.loopTrim ∧ r.loopTrim ≤ 60) :
    -60 ≤ (judgeZone l p sheet w r).2 ∧ (judgeZone l p sheet w r).2 ≤ 60 := by
  have hs : -60 ≤ steppedTrim l w.toInt r ∧ steppedTrim l w.toInt r ≤ 60 := clampInt_between _ (by omega)
  unfold judgeZone
  dsimp only
  repeat' split
  all_goals first | exact h | exact hs

end Sys2Proof.Machine
end

