-- ==== Sys2Proof/Tests/Slice0.lean ====
section
/-! SUPPORT. Tests from the spec's figures, refusals of ill-formed commands, and a witness for every statement with
hypotheses: states and operands that meet them, clause by clause. -/

set_option Elab.async false

namespace Sys2Proof.Tests

open Sys2Proof.Machine Sys2Proof.Safety Sys2Proof.Claims

/-! ### Small states -/

/-- A REQUEST frame with these operand words under their count, tag 5. -/
def frame (p : Port) (ws : List Word) : Frame := ⟨p, 5, some (BitVec.ofNat 16 ws.length), ws, false⟩

/-- The part RUNNING after power-on, UNCONFIGURED. -/
def run0 : State := { State.reset with press := { State.reset.press with phase := .running } }

/-- One unit of 12 UNKNOWN zones. -/
def dev : State := run0.configured [12]

/-- The zone records changed by `f`. -/
def withZones (f : ZoneRec → ZoneRec) (s : State) : State := { s with zones := s.zones.map f }

/-- Zone z of unit 1 changed by `f`. -/
def withZone (z : Nat) (f : ZoneRec → ZoneRec) (s : State) : State := s.modZone 1 z f

/-- A key at rest, sensed at p. -/
def sensed (k : KeyState) (p : Nat) (r : ZoneRec) : ZoneRec := { r with state := k, measured := some p }

/-- Curve 3 of the example of 02_characteristic_curves.md. -/
def curve3 : Curve := ⟨50, [⟨0, 20⟩, ⟨100, 60⟩, ⟨300, 140⟩, ⟨600, 250⟩, ⟨1000, 380⟩]⟩

/-- Curve 3 defined, its request executed to the end. -/
def withCurve3 (s : State) : State :=
  { s with
    curves := s.curves.setIfInBounds 3 (some curve3)
    kept := { s.kept with curves := s.kept.curves.setIfInBounds 3 (some curve3) } }

def unit1 : UnitParams := ⟨1, 3, 40, 8, 4, 2, 11⟩

def job7 : ActiveJob := ⟨7, [1], [unit1]⟩

/-- A job on unit 1, coverage 500 in every zone, zones 1 and 12 closed: targets 0 and 266; every key SETTLED. -/
def printing : State :=
  let s := { withCurve3 dev with job := some job7, device := .jobActive }
  let s := withZones (fun r => { r with coverage := some 500 }) s
  let s := withZones (setPoint s job7) s
  withZones (fun r => { sensed .settled (r.target.getD 0) r with settleStamp := some 100 })
    { s with press := { s.press with sheets := 200, impression := ⟨true, true, none⟩ } }

/-- The same with the supply ON and nothing to do. -/
def onLine : State :=
  { printing with supply := { printing.supply with state := .on, ok := ⟨true, true, none⟩, standby := some ⟨0, 60000⟩ } }

/-- Zone z QUEUED at position 0 on unit 1. -/
def queuedAt (z : Nat) (s : State) : State :=
  withZone z (fun r => { r with state := .queued, measured := some 0 })
    { s with queues := put1 s.queues 1 (s.queue 1 ++ [z]), supply := { s.supply with standby := none } }

/-- Zone z MOVING on unit 1 since time 0, changed by `f`. -/
def movingAt (z : Nat) (f : ZoneRec → ZoneRec) (s : State) : State :=
  withZone z (fun r => f { r with state := .moving, measured := some 0, moveStart := some 0 })
    { s with supply := { s.supply with standby := none } }

/-- Key line 1 changed. -/
def withLine (f : Line → Line) (s : State) : State := s.setLine 1 (f (s.line 1))

def atEcho (n : BitVec 16) (s : State) : State := { s with clock := { s.clock with echo := n } }
def atMs (n : BitVec 32) (s : State) : State := { s with clock := { s.clock with now := ⟨n, 0⟩ } }

/-- The state a command answers. -/
def next (c : Instr) (s : State) : State :=
  match exec c s with
  | .next t => t
  | .fault _ | .refused _ => s

/-- The command answered a next state. -/
def goesOn (c : Instr) (s : State) : Bool :=
  match exec c s with
  | .next _ => true
  | .fault _ | .refused _ => false

theorem exec_next {c : Instr} {s : State} (h : goesOn c s = true) : exec c s = .next (next c s) := by
  unfold goesOn at h
  unfold next
  split at h
  · rename_i t e; rw [e]
  · simp at h
  · simp at h

theorem step_next (c : Instr) (s : State) (h : goesOn c { s with pending := [] } = true) :
    ∃ t, step { s with pending := [c] } = .next t :=
  ⟨_, exec_next (s := { s with pending := [] }) h⟩

/-- The outcome and data words the execution on a port will leave. -/
def answer (p : Port) (s : State) : Option (ResultCode × List Word) :=
  match (s.port p).cmd with
  | .busy r _ | .done r => some (r.outcome, r.data)
  | .idle => none

theorem free_of {s : State} {p : Port} (h : s.press.phase = .running) (hb : (s.port p).isBusy = false) : Free s p :=
  ⟨h, fun r b e => by simp [PortCtl.isBusy, e] at hb⟩

theorem carries_frame (p : Port) (ws : List Word) (h : ws.length ≤ 128) : Carries (frame p ws) p ws :=
  ⟨rfl, rfl, rfl, rfl, h⟩

theorem free_run0 (p : Port) : Free run0 p := free_of rfl (by cases p <;> rfl)
theorem free_dev (p : Port) : Free dev p := free_of rfl (by cases p <;> rfl)
theorem free_printing (p : Port) : Free printing p := free_of rfl (by cases p <;> rfl)
theorem free_onLine (p : Port) : Free onLine p := free_of rfl (by cases p <;> rfl)

/-! ### Ill-formed commands are refused by the check -/

theorem test_wf_frame_without_count : Instr.wellFormed (.identify ⟨.job, 0, none, [1], false⟩) = false := by decide
theorem test_wf_partial_count_with_words : Instr.wellFormed (.takeJob ⟨.console, 0, none, [0], true⟩) = false := by decide
theorem test_wf_partial_count : Instr.wellFormed (.takeJob ⟨.console, 0, none, [], true⟩) = true := by decide
theorem test_wf_known_code : Instr.wellFormed (.unknownRequest 56 (frame .job [])) = false := by decide
theorem test_wf_unknown_code : Instr.wellFormed (.unknownRequest 57 (frame .job [])) = true := by decide
theorem test_wf_fetch_without_header : Instr.wellFormed (.fetch .job 0) = false := by decide
theorem test_wf_request_type : Instr.wellFormed (.unknownFrameType .job 5 1) = false := by decide
theorem test_wf_fetch_type : Instr.wellFormed (.unknownFrameType .job 9 1) = false := by decide
theorem test_wf_type_without_header : Instr.wellFormed (.unknownFrameType .job 4 0) = false := by decide
theorem test_wf_discarded_without_header : Instr.wellFormed (.requestDiscardedBusy .job 0) = false := by decide
theorem test_wf_line_zero : Instr.wellFormed (.lineTurn 0) = false := by decide
theorem test_wf_line_nine : Instr.wellFormed (.echoEnd 9) = false := by decide
theorem test_wf_symbol_line_nine : Instr.wellFormed (.statusSymbol 9 1 true false) = false := by decide
theorem test_wf_poll_zone_zero : Instr.wellFormed (.pollDue 8 0) = false := by decide
theorem test_wf_poll_zone_37 : Instr.wellFormed (.pollDue 8 37) = false := by decide
theorem test_wf_poll_zone_36 : Instr.wellFormed (.pollDue 8 36) = true := by decide
theorem test_no_word_spells_a_command : decodeTableWord 16 0x5033 = none ∧ State.reset.withFetchWord 16 0x5033 = State.reset := by
  decide +kernel

/-! ### Frames as they are clocked (R175 and the request frame header) -/

/-- Step 1 of the closing stage: END STAGE with tag 5 and L = 0 is 0101 0101 0011 0011 and a word 0. -/
theorem test_frame_of_end_stage :
    frameCommand .job
        ([false, true, false, true, false, true, false, true, false, false, true, true, false, false, true, true]
          ++ List.replicate 16 false) = some (.endStage ⟨.job, 5, some 0, [], false⟩) := by decide +kernel

/-- A FETCH of two words and a bit, a frame of type 4, a code outside the table, a header and a partial word, 15 clocks.
-/
theorem test_frame_types :
    frameCommand .loop (fieldBits (0x9000 : Word) ++ List.replicate 17 false) = some (.fetch .loop 2) ∧
      frameCommand .loop (fieldBits (0x4133 : Word)) = some (.unknownFrameType .loop 4 1) ∧
      frameCommand .job (fieldBits (0x5A39 : Word)) = some (.unknownRequest 57 ⟨.job, 10, none, [], false⟩) ∧
      frameCommand .console (fieldBits (0x5112 : Word) ++ [true]) = some (.takeJob ⟨.console, 1, none, [], true⟩) ∧
      frameCommand .console (List.replicate 15 true) = none := by decide +kernel

/-- A frame clocked at a port joins the queue of commands; one of 15 clocks does not. -/
theorem test_frames_join_the_queue :
    (run0.withFrame .job (fieldBits (0x9000 : Word))).pending = [.fetch .job 1] ∧
      (run0.withFrame .job (List.replicate 15 true)).pending = [] := by decide +kernel

/-! ### The spec's figures -/

/-- 08_key_lines_and_echo_measurement.md, the request frame: SENSE of zone 10 is 1, 001010, 10, 1, 0. -/
theorem test_sense_frame_of_zone_10 :
    requestBits 10 .sense none = [true, false, false, true, false, true, false, true, false, true, false] := by decide

/-- The same section: a MOVE of zone 4 with target ticks 2598 has ticks 0101000100110 and parity bit 1. -/
theorem test_move_frame_of_zone_4 :
    requestBits 4 .move (some 2598) =
      [true] ++ [false, false, false, true, false, false] ++ [false, true]
        ++ [false, true, false, true, false, false, false, true, false, false, true, true, false] ++ [true, false] := by
  decide

/-- The same chapter: rise 63 514 and fall 1 187 make 3 209 ticks. -/
theorem test_echo_width_wraps : Capture.width ⟨some 63514, some 1187, false⟩ = some 3209 := by decide

/-- The example of one poll on KL2: with Z = 500 and G = 410, W = 3 209 gives 271. -/
theorem test_echo_of_3209 : plausiblePosition (echoValue ⟨500, 410⟩ 3209) = some 271 := by decide +kernel

/-- 02_characteristic_curves.md, R22: the list that fails checks 6, 7 and 8 is refused with check 6 and index 3. -/
theorem test_lowest_check_first :
    curveCheck 5 50 4 [⟨0, 20⟩, ⟨500, 600⟩, ⟨400, 300⟩, ⟨1000, 200⟩] = some (6, 3) := by decide

/-- The same chapter, step 1: curve 3 passes every check and is stored: OK, 3, 0, 0. -/
theorem test_define_curve_3 :
    answer .job (next (.defineCurve (frame .job [3, 50, 5, 0, 20, 100, 60, 300, 140, 600, 250, 1000, 380])) run0)
      = some (.ok, [3, 0, 0]) := by decide +kernel

/-- 11_command_ports_and_notices.md, the closing stage: header word 42 291, kinds word 1 793; a second fetch 34 099. -/
theorem test_fetch_of_the_closing_stage :
    PortCtl.fetchReply ⟨.done ⟨51, 5, .ok, [2, 0, 44, 0]⟩, true, 1, 7, false, []⟩ = [42291, 1793, 0, 4, 2, 0, 44, 0] ∧
      PortCtl.fetchReply ⟨.done ⟨51, 5, .ok, [2, 0, 44, 0]⟩, false, 1, 7, false, []⟩ =
        [34099, 1793, 0, 4, 2, 0, 44, 0] := by decide

/-- Curve 3 at coverage 500 lies on the segment from (300, 140) to (600, 250): 140 + 73 = 213; at sweep 40, 266. -/
theorem test_curve_and_sweep : curveOpening curve3.points 500 = 213 ∧ sweepOpening 213 50 40 = 266 := by decide

/-- The weights of s1 = 8 and s2 = 4 are 40, 8 and 4: the set-point fields of `printing`. -/
theorem test_targets_of_the_job :
    printing.zones.map ZoneRec.target = [some 0] ++ List.replicate 10 (some 266) ++ [some 0] := by decide +kernel

/-- R57: halves round up, and away from 0. -/
theorem test_roundings : roundHalfUp 5 2 = 3 ∧ roundHalfUp 4 3 = 1 ∧ roundHalfAway (-5) 2 = -3 ∧ roundHalfAway 5 2 = 3 := by
  decide

/-- R66: T = 271 with Z = 500 and G = 410 makes 500 + 2707 = 3207 ticks. -/
theorem test_target_ticks : targetTicks ⟨500, 410⟩ 271 = 3207 := by decide

/-- 06_closed_loop_correction.md, the record with mixed outcomes: zones 2 to 7 and 10 to 12. -/
theorem test_mixed_outcomes :
    let p : UnitParams := ⟨2, 0, 50, 0, 0, 3, 30⟩
    let zone (z : Nat) (k : KeyState) (stamp : BitVec 32) (hold : Bool) (trim : Int) : ZoneRec :=
      { ZoneRec.created 2 z with state := k, settleStamp := some stamp, loopHold := hold, loopTrim := trim }
    let judge (d : Int) (r : ZoneRec) := judgeZone LoopParams.afterReset p 48210 (BitVec.ofInt 16 d) r
    judge 40 (zone 2 .settled 48000 false 0) = (2, 0) ∧ judge (-32768) (zone 3 .settled 48000 false 0) = (1, 0) ∧
      judge 120 (zone 4 .settled 48000 true 8) = (3, 8) ∧ judge (-300) (zone 5 .moving 47950 false 0) = (4, 0) ∧
      judge 60 (zone 6 .settled 48212 false 0) = (5, 0) ∧ judge 60 (zone 7 .settled 48190 false 0) = (5, 0) ∧
      judge (-15) (zone 8 .settled 48100 false 0) = (6, 0) ∧ judge (-20) (zone 9 .settled 48100 false 0) = (6, 0) ∧
      judge 85 (zone 10 .settled 48100 false (-7)) = (7, 2) ∧ judge 250 (zone 11 .settled 48100 false 50) = (8, 60) ∧
      judge (-205) (zone 12 .settled 48100 false 0) = (7, -15) := by decide +kernel

/-- R167: an edge exactly 5 ms after the last counted one counts, one 2.3 ms after it does not. -/
theorem test_sheet_at_five_milliseconds :
    let s (now : Instant) : State := { run0 with
      clock := { run0.clock with now := now }, press := { run0.press with sheets := 1, lastEdge := some ⟨200, 0⟩ } }
    (next (.sheetEdge true) (s ⟨205, 0⟩)).press.sheets = 2 ∧ (next (.sheetEdge true) (s ⟨202, 300⟩)).press.sheets = 1 := by
  decide +kernel

/-- R183: the readout record of zone (1, 2) of the job: word 1 is 4096 + 128 + 8. -/
theorem test_readout_of_a_settled_zone :
    (printing.zone? 1 2).map readoutRecord =
      some [4232, 0xFA00, 500, 500, 266, 266, 0, 0, 266, 0, 0, 100] := by decide +kernel

/-- R116: the arbiter starts after the pointer and wraps from line 8 to line 1. -/
theorem test_arbiter_order : arbiterOrder 8 = [1, 2, 3, 4, 5, 6, 7, 8] ∧ arbiterOrder 3 = [4, 5, 6, 7, 8, 1, 2, 3] := by
  decide

/-- R3, R4: CONFIGURE with Nz = 24, 24 and 20 makes 68 zones; 11 zones are refused. -/
theorem test_configure :
    answer .console (next (.configure (frame .console [3, 24, 24, 20])) run0) = some (.ok, [68]) ∧
      answer .console (next (.configure (frame .console [1, 11])) run0) = some (.badParam, []) := by decide +kernel

/-- R2, R177: a request that needs a configured device; the wrong port comes before it. -/
theorem test_not_configured_and_wrong_port :
    answer .console (next (.takeJob (frame .console [])) run0) = some (.notConfigured, []) ∧
      answer .job (next (.takeJob (frame .job [])) run0) = some (.wrongPort, []) ∧
      answer .job (next (.takeJob (frame .job [1])) run0) = some (.frameError, [1, 0]) := by decide +kernel

/-! ### Witnesses: the machine and the frames -/

/-- One microsecond at the edges: the part time wraps at 2^32 ms and the Echo Timer at 65 536. -/
theorem test_tick_wraps :
    let s : State := { run0 with clock := ⟨⟨0xFFFFFFFF, 999⟩, 65535, 0⟩ }
    s.pending = [] ∧ s.press.phase = .running ∧ s.tick.clock = ⟨⟨0, 0⟩, 0, 0⟩ := by decide +kernel

theorem witness_EmptyQueuePassesOneMicrosecond :
    ∀ ph ∈ [Phase.startUp, .held, .answerDelay, .running],
      ({ run0 with press := { run0.press with phase := ph } } : State).pending = [] ∧
        ({ run0 with press := { run0.press with phase := ph } } : State).press.phase = ph := by decide

/-- TAKE JOB with a word too many, on the wrong port, and before CONFIGURE; frames without a count, with a partial word
and with 129 words; STAGE DATA's longest frame; codes outside the table. -/
theorem witness_RequestFramesAreRefusedInOrder :
    let take : RequestRow := ⟨.takeJob, 18, [.console], fixed 0, true⟩
    let data : RequestRow := ⟨.stageData, 50, [.job], counted 0 1 1, true⟩
    take ∈ requestTable ∧ data ∈ requestTable ∧ (∀ p, Free run0 p) ∧
      ¬ LengthMatches take (frame .console [1]) ∧ ¬ LengthMatches take ⟨.console, 0, none, [], false⟩ ∧
      ¬ LengthMatches take ⟨.console, 0, some 0, [], true⟩ ∧ ¬ LengthMatches data (frame .job (128 :: List.replicate 128 0)) ∧
      ¬ LengthMatches take ⟨.console, 0, none, [], true⟩ ∧ LengthMatches data (frame .job (127 :: List.replicate 127 0)) ∧
      (data.operands ((128 : Word) :: List.replicate 128 0)).getD 0 < 65536 ∧
      LengthMatches take (frame .job []) ∧ Port.job ∉ take.ports ∧ LengthMatches take (frame .console []) ∧
      Port.console ∈ take.ports ∧ take.configured = true ∧ run0.device = .unconfigured ∧
      (∀ code ∈ [0#8, 9#8, 57#8, 255#8], code.toNat ∉ knownCodes) := by
  refine ⟨by simp [requestTable], by simp [requestTable], free_run0, ?_, ?_, ?_, ?_, ?_, ?_, by decide +kernel, ?_, by decide +kernel, ?_,
    by decide +kernel, rfl, rfl, by decide +kernel⟩
  all_goals simp [LengthMatches, frame, fixed, counted]

/-- The header's types, and tails of no bit and of 15. -/
theorem witness_RequestFramesAreRefusedInOrder_headers :
    (5#4 = 5) ∧ (9#4 = 9) ∧ ((4#4) ≠ 5 ∧ (4#4) ≠ 9) ∧ ([] : List Bool).length < 16 ∧
      (List.replicate 15 true).length < 16 ∧ (9#8).toNat ∉ knownCodes := by decide

/-- A Job Port BUSY with END STAGE, its PORT RESET pending or not, and DONE. -/
def busy (b : Bool) : State :=
  run0.modPort .job (fun c => { c with cmd := .busy ⟨51, 5, .ok, [2, 0, 44, 0]⟩ b })
def done : State := run0.modPort .job (fun c => { c with cmd := .done ⟨51, 5, .ok, [2, 0, 44, 0]⟩, dropped := true })

theorem witness_FramesAreDroppedWhileBusy :
    (∀ b, (busy b).press.phase = .running) ∧ (∀ b, ∃ r x, ((busy b).port .job).cmd = .busy r x) ∧
      Req.stageData ≠ .portReset ∧ (frame .job [0]).port = .job ∧ (0#8).toNat ∉ knownCodes ∧ (4#4) ≠ 5 ∧ (4#4) ≠ 9 :=
  ⟨fun _ => rfl, fun _ => ⟨_, _, rfl⟩, by decide, rfl, by decide⟩

theorem witness_FramesAreNotTakenOutsideRunning :
    State.reset.press.phase ≠ .running ∧ (frame .loop []).port = .loop ∧ (15#8).toNat ∉ knownCodes := by decide

theorem witness_FetchShiftsOutTheReply :
    run0.press.phase = .running ∧ (run0.port .job).cmd = .idle ∧ (busy false).press.phase = .running ∧
      ((busy false).port .job).cmd = .busy ⟨51, 5, .ok, [2, 0, 44, 0]⟩ false ∧ done.press.phase = .running ∧
      (done.port .job).cmd = .done ⟨51, 5, .ok, [2, 0, 44, 0]⟩ := by decide

/-- A fetch of ten words shows the leading 0, the reply and a 0 beyond its end, and clears the dropped flag. -/
theorem test_fetch_words :
    ((next (.fetch .job 10) done).port .job).out = [0, 42240 + 51, 0, 0, 4, 2, 0, 44, 0, 0] ∧
      ((next (.fetch .job 10) done).port .job).dropped = false := by decide +kernel

/-- DEFINE CURVE of slot 3 on the Job Port, and after it DELETE CURVE of the same slot on the Console Port. -/
def defining : State :=
  next (.defineCurve (frame .job [3, 50, 5, 0, 20, 100, 60, 300, 140, 600, 250, 1000, 380])) run0
def deleting : State := next (.deleteCurve (frame .console [3])) defining

/-- SET KEY CAL of position (8, 36) on the Console Port. -/
def calibrating : State := next (.setKeyCal (frame .console [8, 36, 200, 257])) run0

theorem witness_ExecutionsEndAndPortResetActs :
    ((busy false).port .job).cmd = .busy ⟨51, 5, .ok, [2, 0, 44, 0]⟩ false ∧ (busy false).kept.underWay = [] ∧
      ((busy true).port .job).cmd = .busy ⟨51, 5, .ok, [2, 0, 44, 0]⟩ true ∧
      (defining.port .job).cmd = .busy ⟨24, 5, .ok, [3, 0, 0]⟩ false ∧
      defining.kept.underWay = [] ++ (.job, .curve 3 (some curve3)) :: [] ∧
      deleting.kept.underWay = [(.job, .curve 3 (some curve3))] ++ (.console, .curve 3 none) :: [] ∧
      (deleting.kept.underWay.map Prod.fst).Nodup ∧ (∀ p ∈ [Port.job, .console], (deleting.port p).isBusy = true) ∧
      (calibrating.port .console).cmd = .busy ⟨39, 5, .ok, [0, 500, 410]⟩ false ∧
      calibrating.kept.underWay = [] ++ (.console, .cal 8 36 ⟨200, 257⟩) :: [] ∧
      (∀ r b, (run0.port .job).cmd ≠ .busy r b) ∧ (frame .job []).port = .job ∧ run0.press.phase = .running ∧
      (busy true).press.phase = .running := by
  refine ⟨rfl, rfl, rfl, ?_, ?_, ?_, ?_, ?_, ?_, ?_, (free_run0 .job).2, rfl, rfl, rfl⟩ <;> decide +kernel

/-- Both executions of `deleting` end, the later one first. -/
theorem witness_ExecutionsEndAndPortResetActs_order :
    ∃ t v, exec (.executionEnd .console) deleting = .next t ∧ exec (.executionEnd .job) t = .next v :=
  ⟨_, _, exec_next (by decide +kernel), exec_next (by decide +kernel)⟩

/-- What a reset keeps: the curve once its execution has ended, and its deletion once that has; in the other order of
ends the slot is kept undefined first and stays so. -/
theorem test_kept_after_execution_end :
    defining.kept.curves.getD 3 none = none ∧ (next (.executionEnd .job) defining).kept.curves.getD 3 none = some curve3 ∧
      (next (.executionEnd .job) deleting).kept.curves.getD 3 none = some curve3 ∧
      (next (.executionEnd .console) (next (.executionEnd .job) deleting)).kept.curves.getD 3 none = none ∧
      (next (.executionEnd .job) (next (.executionEnd .console) deleting)).kept.curves.getD 3 none = none := by
  decide +kernel

/-- R29, R31: the Console Port defines slot 3, the Job Port defines it anew and ends, and deletes it; when the Console Port's
execution ends and RESET falls, the slot holds what the Job Port defined, the latest of the executions that have ended. -/
theorem test_reset_keeps_the_latest_ended_write :
    let s := next (.defineCurve (frame .console [3, 50, 2, 0, 0, 1000, 500])) run0
    let s := next (.executionEnd .job)
      (next (.defineCurve (frame .job [3, 50, 5, 0, 20, 100, 60, 300, 140, 600, 250, 1000, 380])) s)
    let s := next (.executionEnd .console) (next (.deleteCurve (frame .job [3])) s)
    s.curve? 3 = none ∧ (next .resetLineFall s).curve? 3 = some curve3 := by decide +kernel

/-- A pending PORT RESET leaves no result record; without one the record is DONE. -/
theorem test_execution_end :
    ((next (.executionEnd .job) (busy true)).port .job).cmd = .idle ∧
      answer .job (next (.executionEnd .job) (busy false)) = some (.ok, [2, 0, 44, 0]) := by decide

/-! ### Witnesses: requests common to all ports -/

theorem witness_IdentifyReportsTheFigures :
    Free run0 .loop ∧ Carries (frame .loop []) .loop [] ∧ DeviceOk run0 ∧ run0.device = .unconfigured :=
  ⟨free_run0 _, carries_frame _ _ (by decide), by decide +kernel, rfl⟩

theorem witness_ReadStatusReportsNineWords :
    Free run0 .job ∧ Carries (frame .job []) .job [] ∧ DeviceOk run0 ∧ run0.device = .unconfigured :=
  ⟨free_run0 _, carries_frame _ _ (by decide), by decide +kernel, rfl⟩

theorem witness_ReadZonesReportsTheRange :
    Free printing .job ∧ Carries (frame .job [1, 1, 12]) .job [1, 1, 12] ∧ Carries (frame .job [1, 12, 2]) .job [1, 12, 2] ∧
      printing.device ≠ .unconfigured ∧ RecordsOk printing ∧ 1 + 12 - 1 ≤ printing.zonesOf 1 ∧
      ¬ 12 + 2 - 1 ≤ printing.zonesOf 1 :=
  ⟨free_printing _, carries_frame _ _ (by decide), carries_frame _ _ (by decide), by decide +kernel⟩

theorem witness_ReadoutRecordHoldsEveryField :
    let r : ZoneRec := { ZoneRec.created 8 36 with retries := 2, failures := 3, echoWidth := some 8191 }
    r.unit ≤ 8 ∧ r.zone ≤ 36 ∧ r.retries ≤ 2 ∧ r.failures ≤ 3 ∧ r.echoWidth.getD 0 ≤ 8191 := by decide

theorem witness_ReadJobReportsBothJobs :
    Free printing .console ∧ Carries (frame .console []) .console [] ∧ printing.device ≠ .unconfigured ∧ JobOk printing :=
  ⟨free_printing _, carries_frame _ _ (by decide), by decide +kernel, by decide +kernel⟩

/-- The 12 fixed words and the seven of the one active unit. -/
theorem test_read_job :
    answer .console (next (.readJob (frame .console [])) printing) =
      some (.ok, [2, 7, 0, 0, 0, 0, 0, 0, 0, 0, 1, 0, 1, 3, 40, 8, 4, 2, 11]) := by decide +kernel

theorem witness_ReadCurveReportsTheSlot :
    Free printing .job ∧ (∀ k : Word, Carries (frame .job [k]) .job [k]) ∧ 15 < (16 : Word).toNat ∧
      (15 : Word).toNat ≤ 15 ∧ printing.curve? 15 = none ∧ (3 : Word).toNat ≤ 15 ∧ printing.curve? 3 = some curve3 :=
  ⟨free_printing _, fun _ => carries_frame _ _ (by simp), by decide +kernel⟩

/-- A state whose Console Port posts tests. -/
def testing : State := run0.modPort .console (fun c => { c with test := true, notices := 255 })

theorem witness_NoticesMasksAndAttention :
    Free run0 .console ∧ Free testing .console ∧ (∀ w : Word, Carries (frame .console [w]) .console [w]) ∧
      256 ≤ (256 : Word).toNat ∧ (255 : Word).toNat < 256 ∧ (testing.port .console).test = true ∧
      (run0.port .console).test = false :=
  ⟨free_run0 _, free_of rfl rfl, fun _ => carries_frame _ _ (by simp), by decide +kernel, by decide +kernel, rfl, rfl⟩

theorem witness_TestPostingIsGatedByTheSwitch :
    Free run0 .console ∧ Free testing .console ∧ (∀ c w : Word, Carries (frame .console [c, w]) .console [c, w]) ∧
      (0 : Word).toNat < 1 ∧ 3 < (4 : Word).toNat ∧ (3 : Word).toNat = 3 ∧ 1 < (2 : Word).toNat ∧ (1 : Word).toNat ≤ 1 ∧
      256 ≤ (256 : Word).toNat ∧ (255 : Word).toNat < 256 ∧ (run0.port .loop).test = false ∧
      (testing.port .console).test = true :=
  ⟨free_run0 _, free_of rfl rfl, fun _ _ => carries_frame _ _ (by simp), by decide +kernel, by decide +kernel, by decide +kernel, by decide +kernel,
    by decide +kernel, by decide +kernel, by decide +kernel, rfl, rfl⟩

/-! ### Witnesses: configuration, resets, curves, staging -/

theorem witness_ConfigureCreatesTheZoneTable :
    Free run0 .console ∧ Free dev .console ∧ dev.device ≠ .unconfigured ∧ run0.device = .unconfigured ∧
      (∀ ws : List Word, ws.length ≤ 128 → Carries (frame .console ws) .console ws) ∧
      (List.replicate 8 (36 : Word)).length = (8 : Word).toNat ∧
      (∀ k ∈ List.replicate 8 (36 : Word), 12 ≤ k.toNat ∧ k.toNat ≤ 36) ∧ (0 : Word).toNat < 1 ∧ 8 < (9 : Word).toNat ∧
      (∃ k ∈ ([11] : List Word), k.toNat < 12 ∨ 36 < k.toNat) ∧ ∃ k ∈ ([37] : List Word), k.toNat < 12 ∨ 36 < k.toNat :=
  ⟨free_run0 _, free_dev _, by decide +kernel, rfl, carries_frame _, by decide +kernel, by simp, by decide, by decide,
    ⟨11, by simp⟩, ⟨37, by simp⟩⟩

/-- A part held in reset by its line. -/
def held : State := next .resetLineFall printing

theorem witness_ResetsKeepTheTwoTables :
    printing.press.resetPin = true ∧ printing.press.phase ≠ .startUp ∧ held.press.resetPin = false ∧
      held.press.phase = .held ∧ Free printing .console ∧ Carries (frame .console []) .console [] ∧ KeptOk printing ∧
      openWrites printing = [] :=
  ⟨rfl, by decide +kernel, rfl, rfl, free_printing _, carries_frame _ _ (by decide), by decide +kernel, by decide +kernel⟩

/-- A request under execution on the Job Port when the line falls or the console resets, and a step that keeps the
account. -/
theorem witness_ResetsKeepTheTwoTables_under_execution :
    KeptOk run0 ∧ openWrites run0 = [] ∧ Free run0 .job ∧ run0.press.resetPin = true ∧ Free defining .console ∧
      (∃ v, exec .resetLineFall defining = .next v) ∧ (∃ v, exec (.deviceReset (frame .console [])) defining = .next v) ∧
      KeptOk defining ∧ ∃ t, step { defining with pending := [.executionEnd .job] } = .next t :=
  ⟨by decide +kernel, by decide +kernel, free_run0 _, rfl, free_of (by decide +kernel) (by decide +kernel),
    ⟨_, exec_next (by decide +kernel)⟩, ⟨_, exec_next (by decide +kernel)⟩, by decide +kernel,
    step_next (.executionEnd .job) defining (by decide +kernel)⟩

/-- R172, R174: the curve and the calibration entry of requests still under execution do not outlast a reset; those of
executions that have ended do. -/
theorem test_reset_during_an_execution :
    (next .resetLineFall defining).curve? 3 = none ∧
      (next (.deviceReset (frame .console [])) defining).curve? 3 = none ∧
      (next .resetLineFall (next (.executionEnd .job) defining)).curve? 3 = some curve3 ∧
      (next .resetLineFall calibrating).calEntry 8 36 = ⟨500, 410⟩ ∧
      (next .resetLineFall (next (.executionEnd .console) calibrating)).calEntry 8 36 = ⟨200, 257⟩ := by decide +kernel

/-- DEVICE RESET keeps curve 3, removes the job and leaves ANSWER DELAY and no result record. -/
theorem test_device_reset :
    let t := next (.deviceReset (frame .console [])) printing
    t.curve? 3 = some curve3 ∧ t.job = none ∧ t.press.phase = .answerDelay ∧ (t.port .console).cmd = .idle ∧
      t.press.impression.filtered = true := by decide +kernel

def inPhase (ph : Phase) (us : Nat) (pin : Bool) : State :=
  { State.reset with
    clock := { State.reset.clock with phaseUs := us }, press := { State.reset.press with phase := ph, resetPin := pin } }

theorem witness_PowerOnStartsThePartUp :
    (∀ pin, (inPhase .startUp 50000 pin).press.phase = .startUp ∧ 50000 ≤ (inPhase .startUp 50000 pin).clock.phaseUs ∧
      (inPhase .startUp 50000 pin).press.resetPin = pin) ∧ (inPhase .startUp 49999 true).clock.phaseUs < 50000 ∧
      (inPhase .answerDelay 1000 true).press.phase = .answerDelay ∧ 1000 ≤ (inPhase .answerDelay 1000 true).clock.phaseUs ∧
      (inPhase .answerDelay 999 true).press.phase = .answerDelay ∧ (inPhase .answerDelay 999 true).clock.phaseUs < 1000 := by
  decide

/-- The word pairs of a breakpoint list. -/
def pairs (l : List (Nat × Nat)) : List (Word × Word) := l.map (fun q => (BitVec.ofNat 16 q.1, BitVec.ofNat 16 q.2))

def falling : List Breakpoint := [⟨0, 0⟩, ⟨0, 0⟩, ⟨1000, 500⟩]
def high : List Breakpoint := [⟨0, 0⟩, ⟨1000, 501⟩]
def sinking : List Breakpoint := [⟨0, 1⟩, ⟨1000, 0⟩]
def plain : List Breakpoint := [⟨0, 0⟩, ⟨1000, 500⟩]

theorem witness_CurveRequestsAreJudgedInOrder :
    Free printing .job ∧ (∀ ws : List Word, ws.length ≤ 128 → Carries (frame .job ws) .job ws) ∧
      15 < (16 : Word).toNat ∧ (9 : Word).toNat < 10 ∧ 100 < (101 : Word).toNat ∧ (1 : Word).toNat < 2 ∧
      12 < (13 : Word).toNat ∧ printing.activeUses 3 ≠ 0 ∧ printing.activeUses 15 = 0 ∧
      (breakpoints (pairs [(1, 0), (1000, 500)])).head?.map Breakpoint.x ≠ some 0 ∧
      (breakpoints (pairs [(0, 0), (999, 500)])).head?.map Breakpoint.x = some 0 ∧
      (breakpoints (pairs [(0, 0), (999, 500)])).getLast?.map Breakpoint.x ≠ some 1000 ∧
      breakpoints (pairs [(0, 0), (0, 0), (1000, 500)]) = falling ∧ pointsCheck falling = some (6, 2) ∧
      pointsCheck high = some (7, 2) ∧
      pointsCheck sinking = some (8, 2) ∧
      pointsCheck plain = none :=
  ⟨free_printing _, carries_frame _, by decide +kernel⟩

/-- For the lists just named: check 6 fails at place 0 and nowhere before it; in the next, check 7 alone at place 1; in
the third, check 8 alone at place 0; the last passes every check. -/
theorem witness_CurveRequestsAreJudgedInOrder_places :
    ¬ (∀ a b : Breakpoint, falling[0]? = some a → falling[0 + 1]? = some b → a.x < b.x) ∧
    (∀ (j : Nat) (a b : Breakpoint), high[j]? = some a → high[j + 1]? = some b → a.x < b.x) ∧
    ¬ (∀ a : Breakpoint, high[1]? = some a → a.y ≤ 500) ∧ (∀ a : Breakpoint, high[0]? = some a → a.y ≤ 500) ∧
    (∀ (j : Nat) (a b : Breakpoint), sinking[j]? = some a → sinking[j + 1]? = some b → a.x < b.x) ∧
    (∀ (j : Nat) (a : Breakpoint), sinking[j]? = some a → a.y ≤ 500) ∧
    ¬ (∀ a b : Breakpoint, sinking[0]? = some a → sinking[0 + 1]? = some b → a.y ≤ b.y) ∧
    (∀ (j : Nat) (a b : Breakpoint), plain[j]? = some a → plain[j + 1]? = some b → a.x < b.x ∧ a.y ≤ b.y) ∧
    ∀ (j : Nat) (a : Breakpoint), plain[j]? = some a → a.y ≤ 500 := by
  refine ⟨fun h => absurd (h _ _ rfl rfl) (by decide), ?_, fun h => absurd (h _ rfl) (by decide), ?_, ?_, ?_,
    fun h => absurd (h _ _ rfl rfl) (by decide), ?_, ?_⟩
  · rintro (_ | _ | j) a b <;> simp +contextual [high, eq_comm]
  · intro a; simp +contextual [high, eq_comm]
  · rintro (_ | _ | j) a b <;> simp +contextual [sinking, eq_comm]
  · rintro (_ | _ | j) a <;> simp +contextual [sinking, eq_comm]
  · rintro (_ | _ | j) a b <;> simp +contextual [plain, eq_comm]
  · rintro (_ | _ | j) a <;> simp +contextual [plain, eq_comm]

/-- The example of 03_job_staging_and_job_change.md on one unit: an OPEN slot for job 412, expecting 12 values. -/
def stage (received : Nat) (records : List UnitParams) : Stage := ⟨412, [1], 12, List.replicate received 500, 0, records⟩
def staging (received : Nat) (records : List UnitParams) : State := { dev with slot := .opened (stage received records) }

theorem free_staging (n : Nat) (rs : List UnitParams) (p : Port) : Free (staging n rs) p := free_of rfl (by cases p <;> rfl)

theorem witness_BeginStageOpensTheSlot :
    Free dev .job ∧ Free (staging 0 []) .job ∧ (∀ ws : List Word, ws.length ≤ 128 → Carries (frame .job ws) .job ws) ∧
      dev.device ≠ .unconfigured ∧ (staging 0 []).slot = .opened (stage 0 []) ∧ ¬ isOpen dev ∧ (1 : Word) ≠ 0 ∧
      (0 : Word).toNat < 1 ∧ 8 < (9 : Word).toNat ∧ ¬ 2 ≤ dev.nz.length ∧ 1 ≤ dev.nz.length ∧ ¬ [1, 1].Nodup ∧ [1].Nodup :=
  ⟨free_dev _, free_staging _ _ _, carries_frame _, by decide +kernel, rfl, fun ⟨_, h⟩ => by simp [dev, State.configured, run0, State.reset] at h,
    by decide +kernel⟩

theorem witness_StageUnitRecordsTheParameters :
    Free dev .job ∧ Free (staging 0 [unit1]) .job ∧ (∀ ws : List Word, ws.length ≤ 128 → Carries (frame .job ws) .job ws) ∧
      dev.device ≠ .unconfigured ∧ ¬ isOpen dev ∧ (staging 0 [unit1]).slot = .opened (stage 0 [unit1]) ∧
      stageUnitCheck dev (stage 0 []) ⟨2, 15, 10, 16, 8, 1, 12⟩ = some 1 ∧
      stageUnitCheck dev (stage 0 []) ⟨1, 16, 10, 16, 8, 1, 12⟩ = some 2 ∧
      stageUnitCheck dev (stage 0 []) ⟨1, 15, 9, 16, 8, 1, 12⟩ = some 3 ∧
      stageUnitCheck dev (stage 0 []) ⟨1, 15, 101, 16, 8, 1, 12⟩ = some 3 ∧
      stageUnitCheck dev (stage 0 []) ⟨1, 15, 10, 17, 8, 1, 12⟩ = some 4 ∧
      stageUnitCheck dev (stage 0 []) ⟨1, 15, 10, 16, 9, 1, 12⟩ = some 5 ∧
      stageUnitCheck dev (stage 0 []) ⟨1, 15, 10, 16, 8, 0, 12⟩ = some 6 ∧
      stageUnitCheck dev (stage 0 []) ⟨1, 15, 10, 16, 8, 13, 12⟩ = some 6 ∧
      stageUnitCheck dev (stage 0 []) ⟨1, 15, 10, 16, 8, 1, 13⟩ = some 7 ∧
      stageUnitCheck dev (stage 0 []) ⟨1, 15, 10, 16, 8, 1, 12⟩ = none ∧
      (∃ q ∈ (stage 0 [unit1]).records, q.unit = 1) ∧ ∀ q ∈ (stage 0 []).records, q.unit ≠ 1 :=
  ⟨free_dev _, free_staging _ _ _, carries_frame _, by decide +kernel, fun ⟨_, h⟩ => by simp [dev, State.configured, run0, State.reset] at h, rfl,
    by decide +kernel⟩

/-- The operands just named meet every range before the one that fails. -/
theorem witness_StageUnitRecordsTheParameters_operands :
    (2 : Word).toNat ∉ (stage 0 []).units ∧ (1 : Word).toNat ∈ (stage 0 []).units ∧ (15 : Word).toNat ≤ 15 ∧
      ¬ (16 : Word).toNat ≤ 15 ∧ ¬ 10 ≤ (9 : Word).toNat ∧ 10 ≤ (10 : Word).toNat ∧ (100 : Word).toNat ≤ 100 ∧
      (16 : Word).toNat ≤ 16 ∧ ¬ (17 : Word).toNat ≤ 16 ∧ (8 : Word).toNat ≤ 8 ∧ ¬ (9 : Word).toNat ≤ 8 ∧
      dev.zonesOf (1 : Word).toNat = 12 := by decide

theorem witness_StageDataFillsTheStream :
    Free dev .job ∧ (∀ n, Free (staging n []) .job) ∧ (∀ ws : List Word, ws.length ≤ 128 → Carries (frame .job ws) .job ws) ∧
      dev.device ≠ .unconfigured ∧ ¬ isOpen dev ∧ (staging 11 []).slot = .opened (stage 11 []) ∧
      (stage 11 []).stream.length ≤ (stage 11 []).expected ∧ (0 : Word).toNat < 1 ∧ 64 < (65 : Word).toNat ∧
      (1 : Word).toNat ≤ (stage 11 []).expected - (stage 11 []).stream.length ∧
      (stage 11 []).expected - (stage 11 []).stream.length < (2 : Word).toNat :=
  ⟨free_dev _, fun _ => free_staging _ _ _, carries_frame _, by decide +kernel,
    fun ⟨_, h⟩ => by simp [dev, State.configured, run0, State.reset] at h, rfl, by decide +kernel⟩

/-- 1040 is stored as 1000 and counted; the 13th value overruns the stream and fails the slot with OVERSIZE. -/
theorem test_stage_data :
    answer .job (next (.stageData (frame .job [2, 1040, 3])) (staging 0 [])) = some (.ok, [2, 1, 10]) ∧
      answer .job (next (.stageData (frame .job [2, 1040, 3])) (staging 11 [])) = some (.badParam, [1, 1, 1]) ∧
      (next (.stageData (frame .job [2, 1040, 3])) (staging 11 [])).slot.causeCode = 1 := by decide +kernel

theorem witness_StageIsClosedOrDiscarded :
    Free dev .job ∧ (∀ n rs p, Free (staging n rs) p) ∧ (∀ p, Carries (frame p []) p []) ∧ dev.device ≠ .unconfigured ∧
      ¬ isOpen dev ∧ (∀ n rs, (staging n rs).slot = .opened (stage n rs)) ∧
      (stage 11 []).stream.length < (stage 11 []).expected ∧ (stage 12 []).expected ≤ (stage 12 []).stream.length ∧
      (stage 12 []).units.countP (fun u => (stage 12 []).records.all (fun q => q.unit != u)) ≠ 0 ∧
      (stage 12 [unit1]).units.countP (fun u => (stage 12 [unit1]).records.all (fun q => q.unit != u)) = 0 :=
  ⟨free_dev _, free_staging, fun p => carries_frame p _ (by decide), by decide +kernel,
    fun ⟨_, h⟩ => by simp [dev, State.configured, run0, State.reset] at h, fun _ _ => rfl, by decide +kernel⟩

/-- The closing stage: OK, 2, 0, received, 0, with STAGE_DONE on the Job and the Console Port. -/
theorem test_end_stage :
    let t := next (.endStage (frame .job [])) (staging 12 [unit1])
    answer .job t = some (.ok, [2, 0, 12, 0]) ∧ (t.port .job).notices = 1 ∧ (t.port .console).notices = 1 ∧
      answer .job (next (.endStage (frame .job [])) (staging 11 [])) = some (.ok, [3, 2, 11, 1]) := by decide +kernel

/-! ### Witnesses: jobs and the set-point chain -/

/-- A COMPLETE slot for job 412 on unit 1; curve 3 is defined in `ready` alone. -/
def complete : State := { dev with slot := .complete (stage 12 [unit1]) }
def ready : State := withCurve3 complete

theorem witness_TakeJobMakesTheStagedJobActive :
    Free dev .console ∧ Free complete .console ∧ Free ready .console ∧ Carries (frame .console []) .console [] ∧
      (∀ s ∈ [dev, complete, ready], s.device ≠ .unconfigured ∧ RecordsOk s ∧ SlotOk s) ∧ completed dev.slot = none ∧
      complete.slot = .complete (stage 12 [unit1]) ∧ ready.slot = .complete (stage 12 [unit1]) ∧
      (stage 12 [unit1]).records.filter (fun p => (complete.curve? p.curve).isNone) = [unit1] ∧
      (stage 12 [unit1]).records.filter (fun p => (ready.curve? p.curve).isNone) = [] :=
  ⟨free_dev _, free_of rfl rfl, free_of rfl rfl, carries_frame _ _ (by decide), by decide +kernel, rfl, rfl, rfl,
    by decide +kernel, by decide +kernel⟩

/-- Every target is written, so 12 zones are in the batch; the second take finds the slot EMPTY. -/
theorem test_take_job :
    answer .console (next (.takeJob (frame .console [])) ready) = some (.ok, [412, 0, 12]) ∧
      answer .console (next (.takeJob (frame .console [])) complete) = some (.curveMissing, [3, 1]) ∧
      answer .console (next (.takeJob (frame .console [])) dev) = some (.notReady, [0]) := by decide +kernel

theorem witness_EndJobRemovesTheTargets :
    Free dev .console ∧ Free printing .console ∧ Carries (frame .console []) .console [] ∧ dev.device ≠ .unconfigured ∧
      dev.job = none ∧ printing.device ≠ .unconfigured ∧ printing.job = some job7 :=
  ⟨free_dev _, free_printing _, carries_frame _ _ (by decide), by decide +kernel, rfl, by decide +kernel, rfl⟩

/-- Two units, job 7 on the first alone. -/
def twoUnits : State := { run0.configured [12, 12] with job := some job7, device := .jobActive }

theorem witness_SetSweepRecomputesTheUnit :
    Free printing .console ∧ Free twoUnits .console ∧ (∀ u w : Word, Carries (frame .console [u, w]) .console [u, w]) ∧
      printing.device ≠ .unconfigured ∧ JobOk printing ∧ twoUnits.device ≠ .unconfigured ∧ JobOk twoUnits ∧
      ¬ 2 ≤ printing.nz.length ∧ 1 ≤ printing.nz.length ∧ ¬ 10 ≤ (9 : Word).toNat ∧ 10 ≤ (10 : Word).toNat ∧
      (100 : Word).toNat ≤ 100 ∧ ¬ (101 : Word).toNat ≤ 100 ∧ 2 ≤ twoUnits.nz.length ∧
      (∀ j, twoUnits.job = some j → 2 ∉ j.units) ∧ printing.job = some job7 ∧ unit1 ∈ job7.records ∧ unit1.unit = 1 :=
  ⟨free_printing _, free_of rfl rfl, fun _ _ => carries_frame _ _ (by simp), by decide +kernel, by decide +kernel,
    by decide +kernel, by decide +kernel, by decide +kernel, by decide +kernel, by decide, by decide, by decide, by decide,
    by decide +kernel, fun j h => by cases h; decide, rfl, by decide, rfl⟩

/-- 213 × 50 / 100 is 106.5: the targets of the ten open zones become 107. -/
theorem test_set_sweep :
    answer .console (next (.setSweep (frame .console [1, 100])) printing) = some (.ok, [40, 10]) ∧
      (next (.setSweep (frame .console [1, 100])) printing).zones.map ZoneRec.target =
        [some 0] ++ List.replicate 10 (some 107) ++ [some 0] := by decide +kernel

/-- The record of zone z of unit 1 in `printing`. -/
def zoneOf (z : Nat) : ZoneRec := (printing.zone? 1 z).getD (ZoneRec.created 1 z)

theorem witness_SpreadIsAMeanOfItsValues :
    ∀ z ∈ [2, 11], job7.record? (zoneOf z).unit = some unit1 ∧ unit1.s1 ≤ 16 ∧ unit1.s2 ≤ 8 ∧ 1 ≤ unit1.first ∧
      unit1.first ≤ (zoneOf z).zone ∧ (zoneOf z).zone ≤ unit1.last ∧ (zoneOf z).coverage = some 500 := by decide +kernel

/-- Values 400 to 600 across zones 2 to 6 with weights 4, 8, 40, 8, 4 and a step at zone 4: (1600 + 3200 + 20000 + 4800
+ 2400) / 64 = 500; with 100 in zone 5 instead of 600, (1600 + 3200 + 20000 + 800 + 2400) / 64 = 437.5, which is 438. -/
theorem test_spread :
    let at' (z : Nat) : Option Nat := if z ≤ 3 then some 400 else if z = 4 then some 500 else some 600
    let s (five : Nat) : State :=
      withZones (fun r => { r with coverage := if r.zone = 5 then some five else at' r.zone }) printing
    spread (s 600).zones unit1 1 4 500 = 500 ∧ spread (s 100).zones unit1 1 4 500 = 438 := by decide +kernel

theorem witness_CurveStageInterpolates :
    CurveOk curve3 ∧ (1000 : Nat) ≤ 1000 ∧ (⟨100, 60⟩ : Breakpoint) ∈ curve3.points ∧ curve3.points[2]? = some ⟨300, 140⟩ ∧
      curve3.points[2 + 1]? = some ⟨600, 250⟩ ∧ 300 < 301 ∧ 599 < 600 ∧ ∀ q ∈ curve3.points, q.x ≠ 500 := by decide

theorem witness_SetPointFieldsByTheWidthStage :
    job7.record? 2 = none ∧ job7.record? (zoneOf 1).unit = some unit1 ∧ (zoneOf 1).zone < unit1.first ∧
      unit1.last < (zoneOf 12).zone ∧ unit1.first ≤ (zoneOf 2).zone ∧ (zoneOf 11).zone ≤ unit1.last ∧
      (zoneOf 2).coverage = some 500 ∧ printing.curve? unit1.curve = some curve3 ∧
      (setPoint printing job7 (zoneOf 2)).effective = some 500 ∧ CurveOk curve3 ∧ UnitParamsOk unit1 := by decide +kernel

/-- Trims drive the sum below 0 and above 500: the target stands at its bound with the limit flag. -/
theorem test_limit_flag :
    let t (c l : Int) : Option Nat × Bool :=
      let r := setPoint printing job7 { zoneOf 2 with consoleTrim := c, loopTrim := l }
      (r.target, r.limit)
    t 100 60 = (some 426, false) ∧ t (-100) (-60) = (some 106, false) ∧ t 235 0 = (some 500, true) ∧
      t (-267) 0 = (some 0, true) := by decide +kernel

theorem witness_ConversionsAreInverse :
    (∀ e ∈ [(⟨500, 410⟩ : CalEntry), ⟨200, 1600⟩, ⟨4000, 489⟩, ⟨200, 257⟩], CalOk e) ∧ (0 : Nat) < 1 ∧ (500 : Nat) ≤ 500 := by
  decide +kernel

/-- R68: −20 and 520 are plausible, −21 and 521 are not. -/
theorem test_plausible :
    [-21, -20, 0, 500, 520, 521].map plausiblePosition = [none, some 0, some 0, some 500, some 500, none] := by decide

/-! ### Witnesses: trims, loop hold, zone service -/

theorem witness_TrimRequestsWriteClampAndCount :
    Free printing .console ∧ printing.device ≠ .unconfigured ∧ RecordsOk printing ∧
      (∀ ws : List Word, ws.length ≤ 128 → Carries (frame .console ws) .console ws) ∧
      runValid printing 1 1 12 ∧ ¬ runValid printing 1 2 12 ∧ ¬ runValid printing 0 1 1 ∧ ¬ runValid printing 2 1 1 ∧
      ¬ 1 ≤ (0 : Word).toNat ∧ ¬ (37 : Word).toNat ≤ 36 ∧ (1 : Word).toNat ≤ printing.nz.length ∧
      ¬ (2 : Word).toNat ≤ printing.nz.length ∧ (1 : Word).toNat ≤ 3 ∧ (3 : Word).toNat ≤ 3 ∧ ¬ (4 : Word).toNat ≤ 3 := by
  refine ⟨free_printing _, by decide +kernel, by decide +kernel, carries_frame _, ?_, ?_, ?_, ?_, by decide, by decide,
    by decide +kernel, by decide +kernel, by decide⟩
  all_goals unfold runValid; decide +kernel

/-- +120 is clamped to +100 and counted; two trims change, and two targets with them. -/
theorem test_console_trim :
    answer .console (next (.setConsoleTrim (frame .console [1, 2, 2, 120, 0xFFFB])) printing) = some (.ok, [1, 2, 2]) ∧
      (next (.setConsoleTrim (frame .console [1, 2, 2, 120, 0xFFFB])) printing).zones.map ZoneRec.target =
        [some 0, some 366, some 261] ++ List.replicate 8 (some 266) ++ [some 0] := by decide +kernel

theorem witness_LoopHoldFlagsAreWritten :
    Free printing .console ∧ (∀ ws : List Word, ws.length ≤ 128 → Carries (frame .console ws) .console ws) ∧
      printing.device ≠ .unconfigured ∧ runValid printing 1 1 12 ∧ ¬ runValid printing 1 2 12 ∧
      1 < (2 : Word).toNat ∧ (1 : Word).toNat ≤ 1 := by
  refine ⟨free_printing _, carries_frame _, by decide +kernel, ?_, ?_, by decide, by decide⟩
  all_goals unfold runValid; decide +kernel

/-- A device with a zone in every key state: zone 1 MOVING with a poll set, 2 MOVING with a halt, 3 MOVING with a retry
due, 4 and 5 QUEUED, 6 UNKNOWN with a halt pending, 7 UNKNOWN, 8 MISSED, 9 BLOCKED, 10 FAULTED, 11 DISABLED, 12 SETTLED.
-/
def mixed : State :=
  let s := { onLine with hold := false }
  let s := movingAt 1 (fun r => { r with pollDue := some ⟨0, 100⟩ }) s
  let s := movingAt 2 (fun r => { r with halts := { r.halts with timeout := true } }) s
  let s := movingAt 3 (fun r => { r with retryDue := true, retries := 1 }) s
  let s := queuedAt 5 (queuedAt 4 s)
  let s := withZone 6 (fun r => { r with state := .unknown, halts := { r.halts with survey := true }, moveStart := some 0 }) s
  let s := withZone 7 (fun r => { r with state := .unknown }) s
  let s := withZone 8 (fun r => { r with state := .missed, measured := some 200, retries := 2 }) s
  let s := withZone 9 (fun r => { r with state := .blocked, faultCause := some .stall }) s
  let s := withZone 10 (fun r => { r with state := .faulted, faultCause := some .line, failures := 3 }) s
  withZone 11 (fun r => { r with state := .disabled }) s

/-- `SchedulerOk` from three decisions: the invariant of the whole state, of each zone record, and of the limits. -/
theorem scheduler_of {s : State} (whole : RecordsOk s ∧ QueuesOk s ∧ MovingOk s ∧ FreezeOk s ∧ PhaseOk s)
    (each : ∀ r ∈ s.zones, FailuresOk r ∧ CauseOk r ∧ MotionOk r ∧ SensedOk r) (limits : LimitsOk s) : SchedulerOk s :=
  have ⟨records, queues, moving, freeze, phase⟩ := whole
  ⟨records, each, queues, moving, freeze, phase, limits⟩

theorem mixed_scheduler : SchedulerOk mixed :=
  scheduler_of (by decide +kernel) (by decide +kernel) (by decide +kernel)

theorem mixed_timers : TimersOk mixed := by decide +kernel
theorem free_mixed (p : Port) : Free mixed p := free_of rfl (by cases p <;> rfl)

theorem witness_DisableZoneByKeyState :
    Free mixed .console ∧ (∀ u z : Word, Carries (frame .console [u, z]) .console [u, z]) ∧ mixed.device ≠ .unconfigured ∧
      RecordsOk mixed ∧ mixed.zone? 1 13 = none ∧ mixed.zone? 1 0 = none ∧
      ∀ z ∈ [1, 2, 3, 4, 5, 6, 7, 8, 9, 10, 11, 12], ∃ r ∈ mixed.zone? 1 z, MotionOk r :=
  ⟨free_mixed _, fun _ _ => carries_frame _ _ (by simp), by decide +kernel, mixed_scheduler.1, by decide +kernel⟩

/-- The key states of zones 1 to 12, which the clauses of the zone service requests name. -/
theorem witness_keyStates :
    (mixed.zones.map (fun r => (r.state, r.halts.any))) =
      [(.moving, false), (.moving, true), (.moving, false), (.queued, false), (.queued, false), (.unknown, true),
        (.unknown, false), (.missed, false), (.blocked, false), (.faulted, false), (.disabled, false),
        (.settled, false)] := by decide +kernel

/-- MOVING stays MOVING with DISABLE pending; a QUEUED zone leaves its queue; a BLOCKED one is disabled at once. -/
theorem test_disable_zone :
    let t z := next (.disableZone (frame .console [1, z])) mixed
    answer .console (t 1) = some (.ok, [4, 1]) ∧ answer .console (t 4) = some (.ok, [8, 0]) ∧ (t 4).queue 1 = [5] ∧
      answer .console (t 6) = some (.ok, [0, 1]) ∧ answer .console (t 9) = some (.ok, [8, 0]) := by decide +kernel

theorem witness_EnableAndReleaseByKeyState :
    Free mixed .console ∧ (∀ u z : Word, Carries (frame .console [u, z]) .console [u, z]) ∧ mixed.device ≠ .unconfigured ∧
      RecordsOk mixed ∧ mixed.zone? 1 13 = none ∧
      (∃ r ∈ mixed.zone? 1 8, r.state = .missed ∧ r.measured = some 200 ∧ r.target = some 266 ∧
        mixed.limits.tolerance < distance 200 266 ∧ distance 262 266 ≤ mixed.limits.tolerance) ∧
      ∃ r ∈ (withZone 8 (fun r => { r with target := none }) mixed).zone? 1 8, r.state = .missed ∧ r.target = none :=
  ⟨free_mixed _, fun _ _ => carries_frame _ _ (by simp), by decide +kernel, mixed_scheduler.1, by decide +kernel,
    by unfold distance; decide +kernel, by decide +kernel⟩

/-- A MISSED zone 66 µm off its target is QUEUED, and is SETTLED 4 µm off it; other states are refused by their code. -/
theorem test_release_zone :
    let t p := next (.releaseZone (frame .console [1, 8])) (withZone 8 (fun r => { r with measured := some p }) mixed)
    answer .console (t 200) = some (.ok, [3]) ∧ (t 200).queue 1 = [4, 5, 8] ∧ answer .console (t 262) = some (.ok, [2]) ∧
      answer .console (next (.releaseZone (frame .console [1, 12])) mixed) = some (.wrongState, [2]) ∧
      answer .console (next (.enableZone (frame .console [1, 11])) mixed) = some (.ok, [0]) := by decide +kernel

theorem witness_CalibrationIsWrittenAndEchoRead :
    Free mixed .console ∧ RecordsOk mixed ∧ (∀ ws : List Word, ws.length ≤ 128 → Carries (frame .console ws) .console ws) ∧
      mixed.device ≠ .unconfigured ∧ ¬ (9 : Word).toNat ≤ 8 ∧ ¬ (37 : Word).toNat ≤ 36 ∧ ¬ 200 ≤ (199 : Word).toNat ∧
      ¬ (4001 : Word).toNat ≤ 4000 ∧ ¬ 100 ≤ (99 : Word).toNat ∧ ¬ (1601 : Word).toNat ≤ 1600 ∧
      8191 < (200 : Word).toNat + roundHalfUp 2048000 (256 : Word).toNat ∧
      (200 : Word).toNat + roundHalfUp 2048000 (257 : Word).toNat ≤ 8191 ∧
      (mixed.zone? 1 4).map ZoneRec.state = some .queued ∧ (mixed.zone? 1 1).map ZoneRec.state = some .moving ∧
      (mixed.zone? 8 36).map ZoneRec.state = none ∧ (mixed.zone? 1 7).map ZoneRec.state = some .unknown ∧
      (mixed.zone? 1 12).map ZoneRec.state = some .settled ∧ mixed.zone? 1 13 = none ∧ (mixed.zone? 1 12).isSome :=
  ⟨free_mixed _, mixed_scheduler.1, carries_frame _, by decide +kernel, by decide, by decide, by decide, by decide,
    by decide, by decide, by decide +kernel⟩

/-- 200 + 2 048 000 / 256 is 8200: check 4; zone 12 becomes UNKNOWN, and a position without a zone is written alone. -/
theorem test_set_key_cal :
    let t u z w g := next (.setKeyCal (frame .console [u, z, w, g])) mixed
    answer .console (t 1 12 200 256) = some (.badParam, [4, 8200]) ∧
      answer .console (t 1 12 200 257) = some (.ok, [1, 500, 410]) ∧ (t 8 36 200 257).calEntry 8 36 = ⟨200, 257⟩ ∧
      answer .console (t 1 4 200 257) = some (.zoneBusy, [3]) ∧ (t 1 12 200 257).calEntry 1 11 = ⟨500, 410⟩ := by
  decide +kernel

/-! ### Witnesses: limits, supply retry, the Loop Corrector -/

theorem witness_HoldAndParametersAreSet :
    Free onLine .console ∧ Free mixed .console ∧ (∀ ws : List Word, ws.length ≤ 128 → Carries (frame .console ws) .console ws) ∧
      onLine.device ≠ .unconfigured ∧
      limitsCheck ⟨1, 1, 20, 1, 0⟩ = none ∧ limitsCheck ⟨24, 20, 500, 30, 255⟩ = none ∧
      limitsCheck ⟨25, 1, 20, 1, 0⟩ = some 1 ∧ limitsCheck ⟨24, 21, 20, 1, 0⟩ = some 2 ∧
      limitsCheck ⟨24, 20, 25, 1, 0⟩ = some 3 ∧ limitsCheck ⟨24, 20, 500, 31, 0⟩ = some 4 ∧
      limitsCheck ⟨24, 20, 500, 30, 256⟩ = some 5 ∧ loopParamsCheck ⟨100, 40, 30, 255⟩ = none ∧
      loopParamsCheck ⟨101, 40, 30, 255⟩ = some 1 ∧ loopParamsCheck ⟨100, 41, 30, 255⟩ = some 2 ∧
      loopParamsCheck ⟨100, 40, 31, 255⟩ = some 3 ∧ loopParamsCheck ⟨100, 40, 30, 256⟩ = some 4 ∧
      onLine.supply.standby.isSome ∧ mixed.supply.standby = none ∧ mixed.limits.standbyS ≠ 0 :=
  ⟨free_onLine _, free_mixed _, carries_frame _, by decide +kernel, by decide, by decide, by decide, by decide, by decide,
    by decide, by decide, by decide, by decide, by decide, by decide, by decide, by decide +kernel⟩

/-- The standby timer starts when the old standby time was 0 and the condition holds. -/
theorem witness_HoldAndParametersAreSet_starts :
    let s := { onLine with supply := { onLine.supply with standby := none }, limits := { onLine.limits with standbyS := 0 } }
    Free s .console ∧ s.supply.standby = none ∧ s.limits.standbyS = 0 ∧ s.supply.state = .on ∧
      (∀ q ∈ s.queues.toList, q = []) ∧ ∀ r ∈ s.zones, r.state ≠ .moving :=
  ⟨free_of rfl rfl, rfl, rfl, rfl, by decide +kernel, by decide +kernel⟩

/-- A FAILED supply, with a queue waiting or not and the filtered level high or low. -/
def failed (ok : Bool) (s : State) : State :=
  { s with supply := { s.supply with state := .failed, standby := none, ok := ⟨ok, ok, none⟩ } }

theorem witness_SupplyRetryLeavesFailed :
    Free onLine .console ∧ (∀ ok, Free (failed ok onLine) .console ∧ Free (failed ok mixed) .console) ∧
      Carries (frame .console []) .console [] ∧ onLine.supply.state ≠ .failed ∧ onLine.device ≠ .unconfigured ∧
      ∀ ok, (failed ok onLine).device ≠ .unconfigured ∧ (failed ok mixed).device ≠ .unconfigured ∧
        (failed ok onLine).supply.state = .failed ∧ (failed ok onLine).supply.warmUp = none ∧
        ((failed ok onLine).queues.toList.map List.length).sum = 0 ∧
        ((failed ok mixed).queues.toList.map List.length).sum ≠ 0 ∧ (failed ok mixed).supply.ok.filtered = ok :=
  ⟨free_onLine _, fun _ => ⟨free_of rfl rfl, free_of rfl rfl⟩, carries_frame _ _ (by decide), by decide +kernel⟩

theorem test_supply_retry :
    answer .console (next (.supplyRetry (frame .console [])) (failed false mixed)) = some (.ok, [1, 2]) ∧
      answer .console (next (.supplyRetry (frame .console [])) (failed true mixed)) = some (.ok, [2, 2]) ∧
      answer .console (next (.supplyRetry (frame .console [])) (failed true onLine)) = some (.ok, [0, 0]) ∧
      answer .console (next (.supplyRetry (frame .console [])) onLine) = some (.wrongState, [2]) := by decide +kernel

theorem witness_DeviationRecordsAreJudgedWhole :
    Free printing .loop ∧ Free dev .loop ∧ Free twoUnits .loop ∧
      (∀ ws : List Word, ws.length ≤ 128 → Carries (frame .loop ws) .loop ws) ∧ printing.device ≠ .unconfigured ∧
      dev.device ≠ .unconfigured ∧ RecordsOk printing ∧ (∀ j, dev.job = some j → j.record? 1 = none) ∧
      (∀ j, twoUnits.job = some j → j.record? 2 = none) ∧ printing.job = some job7 ∧ job7.record? 1 = some unit1 ∧
      ¬ 1 ≤ (0 : Word).toNat ∧ ¬ (37 : Word).toNat ≤ 36 ∧ 1 + 12 - 1 ≤ printing.zonesOf 1 ∧
      ¬ 2 + 12 - 1 ≤ printing.zonesOf 1 ∧ (BitVec.ofInt 16 (-999)).toInt = -999 ∧ (999 : Word).toInt = 999 ∧
      (0x8000 : Word).toInt = -32768 ∧ ¬ (1000 : Word).toInt ≤ 999 ∧ printing.press.impression.filtered = true ∧
      twoUnits.press.impression.filtered = false ∧ (printing.press.sheets - ((0 : Word) ++ (200 : Word))).toNat < 2 ^ 31 ∧
      2 ^ 31 ≤ (printing.press.sheets - ((0 : Word) ++ (201 : Word))).toNat :=
  ⟨free_printing _, free_dev _, free_of rfl rfl, carries_frame _, by decide +kernel, by decide +kernel, by decide +kernel,
    fun j h => (by cases h), fun j h => by cases h; decide, rfl, by decide, by decide, by decide, by decide +kernel,
    by decide +kernel, by decide, by decide, by decide, by decide, rfl, rfl, by decide +kernel, by decide +kernel⟩

/-- Sheet 200, stamps 100, settle age 100: +85 in zone 2 steps by 9, the marker in zone 3 is outcome 1. -/
theorem test_apply_deviations :
    let t (ws : List Word) := answer .loop (next (.applyDeviations (frame .loop ws)) printing)
    t [1, 0, 200, 2, 2, 85, 0x8000] = some (.ok, [2, 1, 1, 7, 9, 1, 0]) ∧
      t [1, 0, 201, 2, 2, 85, 0x8000] = some (.badSheet, [0, 200]) ∧
      t [1, 0, 200, 2, 2, 85, 1000] = some (.badParam, [3, 2]) ∧ t [1, 0, 200, 12, 2, 0, 0] = some (.badParam, [2, 0]) := by
  decide +kernel

theorem witness_ZoneOutcomesOfADeviation :
    let l := LoopParams.afterReset
    let r := { zoneOf 2 with settleStamp := some 100#32 }
    (0x8000 : Word).toInt = -32768 ∧ (zoneOf 1).zone < unit1.first ∧ ¬ ((zoneOf 2).zone < unit1.first ∨ unit1.last < (zoneOf 2).zone) ∧
      (zoneOf 2).loopHold = false ∧ (zoneOf 2).state = .settled ∧ (ZoneRec.created 1 2).state ≠ .settled ∧
      r.settleStamp = some 100 ∧ ((139 : BitVec 32) - 100).toNat < l.settleSheets ∧
      l.settleSheets ≤ ((140 : BitVec 32) - 100).toNat ∧ ((140 : BitVec 32) - 100).toNat < 2 ^ 31 ∧
      2 ^ 31 ≤ ((99 : BitVec 32) - 100).toNat ∧ (20 : Word).toInt ≤ l.deadBand ∧ ¬ (21 : Word).toInt ≤ l.deadBand ∧
      r.loopTrim + within l.stepLimit (roundHalfAway (21 * l.gain) 100) ≤ 60 ∧
      60 < (60 : Int) + within l.stepLimit (roundHalfAway (21 * l.gain) 100) := by
  decide +kernel

/-! ### Witnesses: the Move Scheduler -/

/-- `mixed` with the supply OFF and empty queues; the MOVING and QUEUED zones of `mixed` are IDLE in it. -/
def resting : State :=
  withZones (fun r => if r.state = .moving ∨ r.state = .queued then
      { r with state := .idle, moveStart := none, retryDue := false, halts := .none, pollDue := none } else r)
    { mixed with queues := Vector.replicate 8 [], supply := { mixed.supply with state := .off }, preset := true }

/-- The targets of two SETTLED zones moved to 300 and 268: the first is QUEUED, the second stays SETTLED. -/
def retarget : State :=
  withZones (fun r => if r.zone = 2 then { r with target := some 300 } else if r.zone = 3 then { r with target := some 268 }
    else r) onLine

theorem witness_BatchIsHandledZoneByZone :
    RecordsOk mixed ∧ QueuesOk mixed ∧ mixed.supply.state ≠ .off ∧ RecordsOk resting ∧ QueuesOk resting ∧
      resting.supply.state = .off ∧ (∀ q ∈ resting.queues.toList, q = []) ∧ resting.preset = true ∧
      [(1, 1), (1, 8), (1, 12)].Sublist (mixed.zones.map (fun r => (r.unit, r.zone))) ∧
      (∃ r ∈ (resting.handBatch [(1, 8)]).zones, r.state = .queued) ∧
      (∀ r ∈ (resting.handBatch []).zones, r.state ≠ .queued) := by
  refine ⟨mixed_scheduler.1, by decide +kernel, by decide +kernel, by decide +kernel, by decide +kernel, by decide +kernel,
    by decide +kernel, rfl, by decide +kernel⟩

/-- The preset condition at the end of a batch: met by a device whose every zone rests, not by one with a QUEUED zone.
-/
theorem witness_BatchIsHandledZoneByZone_preset :
    let s := { onLine with preset := true }
    RecordsOk s ∧ QueuesOk s ∧ s.preset = true ∧ presetOver (s.handBatch [(1, 2)]).zones ∧
      ¬ presetOver (({ retarget with preset := true }).handBatch [(1, 2)]).zones ∧ (s.handBatch [(1, 2)]).preset = false := by
  refine ⟨by decide +kernel, by decide +kernel, rfl, ?_, ?_, by decide +kernel⟩
  all_goals unfold presetOver; decide +kernel

/-- A batch of zones 2 and 3: the first, 34 µm off, joins the queue; the second, 2 µm off, stays SETTLED with its stamp.
-/
theorem test_batch :
    (retarget.handBatch [(1, 2), (1, 3)]).queue 1 = [2] ∧
      ((retarget.handBatch [(1, 2), (1, 3)]).zone? 1 3).map (fun r => (r.state, r.settleStamp)) = some (.settled, some 100) := by
  decide +kernel

theorem witness_EnteringAKeyState :
    (∀ q : ZoneRec, (id q).unit = q.unit ∧ (id q).zone = q.zone ∧ (id q).state = q.state) ∧ (mixed.zone? 1 4).isSome ∧
      (mixed.zone? 1 7).isSome ∧ KeyState.faulted ≠ .moving ∧ (1 : Nat) ≤ 1 ∧ (1 : Nat) ≤ 8 ∧
      resting.supply.state = .off ∧ resting.queue 1 = [] ∧ mixed.queue 1 ≠ [] ∧
      (let s := withZone 6 (fun r => { r with state := .disabled, halts := .none }) mixed;
        (s.zone? 1 7).map ZoneRec.state = some .unknown ∧ ∀ q ∈ (s.enter 1 7 .blocked (some .stall) id).zones, q.state ≠ .unknown) :=
  ⟨fun _ => ⟨rfl, rfl, rfl⟩, by decide +kernel, by decide +kernel, by decide, by decide, by decide, rfl, by decide +kernel⟩

theorem witness_EvaluationAndTheTestsThatFollow :
    (∃ r ∈ mixed.zone? 1 12, r.measured = some 0 ∧ r.target = some 0 ∧ distance 0 0 ≤ mixed.limits.tolerance) ∧
      (∃ r ∈ mixed.zone? 1 8, r.measured = some 200 ∧ r.target = some 266 ∧ mixed.limits.tolerance < distance 200 266) ∧
      (∃ r ∈ dev.zone? 1 1, r.target = none) ∧ presetOver onLine.zones ∧ ¬ presetOver mixed.zones := by
  unfold distance presetOver; decide +kernel

/-- A record with no halt, poll or retry waiting, in a form that evaluates. -/
theorem idle_of {s : State} {r : ZoneRec}
    (h : (r.haltPending || r.pollIsDue s.clock.now.ms || r.retryIsDue) = false) :
    ¬ haltWaits r ∧ ¬ pollWaits s r ∧ ¬ retryWaits r := by
  simp only [Bool.or_eq_false_iff] at h
  obtain ⟨⟨g1, g2⟩, g3⟩ := h
  refine ⟨fun w => ?_, fun w => ?_, fun w => ?_⟩
  · obtain ⟨a, b⟩ := w; rcases a with a | a <;> simp [ZoneRec.haltPending, a, b] at g1
  · obtain ⟨a, b, d, c, e⟩ := w
    have k : r.pollIsDue s.clock.now.ms = true := by
      simp only [ZoneRec.pollIsDue, a, b, c, elapsedMs]; exact decide_eq_true e
    rw [k] at g2; cases g2
  · obtain ⟨a, b, c⟩ := w; simp [ZoneRec.retryIsDue, a, b, c] at g3

/-- The conditions of a budget request, in a form that evaluates. -/
theorem requestsBudget_of {s : State} {u : Nat} (h : s.requests u = true) : requestsBudget s u := by
  unfold State.requests at h
  simp only [Bool.and_eq_true, Bool.not_eq_true', List.isEmpty_eq_false_iff, beq_iff_eq] at h
  obtain ⟨⟨⟨⟨⟨h1, h2⟩, h3⟩, h4⟩, h5⟩, h6⟩ := h
  refine ⟨h1, h2, h3, h4, h5, fun r hr hu => idle_of ?_⟩
  have := List.any_eq_false.1 h6 r (List.mem_filter.2 ⟨hr, by simpa using hu⟩)
  exact Bool.eq_false_iff.2 this

/-- Zones 4 and 5 QUEUED on a line with nothing else to do. -/
def waiting : State := queuedAt 5 (queuedAt 4 onLine)

theorem waiting_scheduler : SchedulerOk waiting :=
  scheduler_of (by decide +kernel) (by decide +kernel) (by decide +kernel)

theorem waiting_grants : grantsNext waiting 1 :=
  ⟨by decide +kernel, 0, by decide, by decide +kernel, requestsBudget_of (by decide +kernel), fun j h => absurd h (by omega)⟩

/-- At the budget there is no grant: `mixed` with a budget of 3 has three zones MOVING. -/
theorem witness_GrantStartsTheNextMove :
    SchedulerOk waiting ∧ grantsNext waiting 1 ∧ waiting.queue 1 = [4, 5] ∧ SchedulerOk mixed ∧
      SchedulerOk { mixed with limits := { mixed.limits with budget := 3 } } ∧
      ∀ u, ¬ grantsNext { mixed with limits := { mixed.limits with budget := 3 } } u :=
  ⟨waiting_scheduler, waiting_grants, by decide +kernel, mixed_scheduler,
    scheduler_of (by decide +kernel) (by decide +kernel) (by decide +kernel),
    fun u h => absurd h.1 (by decide +kernel)⟩

/-- A step that begins a first MOVE: GRANT for `waiting`. -/
theorem witness_GrantStartsTheNextMove_step :
    let s := { waiting with pending := [.grant] }
    let t := next .grant { waiting with pending := [] }
    SchedulerOk s ∧ step s = .next t ∧ (s.line 1).phase ≠ .sending ∧ (t.line 1).phase = .sending ∧
      (t.line 1).txn.map Txn.verb = some .move :=
  ⟨waiting_scheduler, exec_next (c := .grant) (s := { waiting with pending := [] }) (by decide +kernel), by decide +kernel⟩

/-- The grant takes zone 4 out of the queue and sends MOVE with 500 + 2657 = 3157 ticks for its target 266. -/
theorem test_grant :
    let t := next .grant waiting
    t.queue 1 = [5] ∧ t.pointer = 1 ∧ t.movingCount = 1 ∧
      ((t.line 1).txn.map (fun x => (x.zone, x.verb, x.ticks))) = some (4, .move, some 3157) := by decide +kernel

/-! ### Witnesses: the key lines -/

/-- `mixed` without its halts: zone 2 has no halt pending, zone 6 is DISABLED. -/
def noHalts : State :=
  withZone 2 (fun r => { r with halts := .none }) (withZone 6 (fun r => { r with state := .disabled, halts := .none, moveStart := none }) mixed)

/-- The poll of zone 1 is due 100 ms after its start; without it, the retry of zone 3 is the first work. -/
def polling : State := atMs 100 noHalts
def retrying (stale : Bool) : State :=
  withZone 1 (fun r => { r with pollDue := none }) (withZone 3 (fun r => { r with stale := stale }) noHalts)
def surveying : State := { (withZone 3 (fun r => { r with retryDue := false }) noHalts) with hold := true }

theorem line_states_ok : ∀ s ∈ [polling, retrying false, retrying true, surveying],
    RecordsOk s ∧ QueuesOk s ∧ MovingOk s ∧ FreezeOk s ∧ PhaseOk s ∧ (s.line 1).phase = .free := by decide +kernel

theorem line_states_records : ∀ s ∈ [polling, retrying false, retrying true, surveying], ∀ r ∈ s.zones,
    FailuresOk r ∧ CauseOk r ∧ MotionOk r ∧ SensedOk r := by decide +kernel

theorem line_states_limits : ∀ s ∈ [polling, retrying false, retrying true, surveying], LimitsOk s := by decide +kernel

theorem line_states_scheduler (s : State) (h : s ∈ [polling, retrying false, retrying true, surveying]) : SchedulerOk s :=
  have ⟨records, queues, moving, freeze, phase, _⟩ := line_states_ok s h
  scheduler_of ⟨records, queues, moving, freeze, phase⟩ (line_states_records s h) (line_states_limits s h)

theorem line_states_timers : ∀ s ∈ [polling, retrying false, retrying true, surveying, waiting], TimersOk s := by
  decide +kernel

/-- A zone without a poll-due time has no poll due. -/
theorem noPoll_of {s : State} {r : ZoneRec} (h : r.pollDue = none) : ¬ pollWaits s r :=
  fun ⟨_, _, _, hd, _⟩ => nomatch h.symm.trans hd

/-- Each place of the turn has its work: the two halts of `mixed`, with and without a mark; a due poll; a retry, stale
and not; a survey under HOLD, where no grant is possible. -/
theorem witness_TurnTakesTheFirstPlaceWithWork :
    SchedulerOk mixed ∧ TimersOk mixed ∧ (mixed.line 1).phase = .free ∧ (mixed.line 1).haltMark = none ∧
      (∃ r, mixed.zone? 1 2 = some r ∧ haltWaits r) ∧ (∃ r, mixed.zone? 1 6 = some r ∧ haltWaits r) ∧
      ((withLine (fun l => { l with haltMark := some 2 }) mixed).line 1).haltMark = some 2 ∧
      ((withLine (fun l => { l with phase := .resting }) mixed).line 1).phase ≠ .free ∧
      (∃ r, polling.zone? 1 1 = some r ∧ pollWaits polling r) ∧ (polling.line 1).phase = .free ∧
      (∀ r, (atMs 99 noHalts).zone? 1 1 = some r → ¬ pollWaits (atMs 99 noHalts) r) ∧
      (∃ r, (retrying false).zone? 1 3 = some r ∧ retryWaits r ∧ ¬ pollWaits (retrying false) r ∧ r.stale = false ∧
        (retrying false).hold = false) ∧
      (∃ r, (retrying true).zone? 1 3 = some r ∧ retryWaits r ∧ ¬ pollWaits (retrying true) r ∧ r.stale = true) ∧
      (∃ r, surveying.zone? 1 7 = some r ∧ surveyWaits r) ∧ (∀ u, ¬ grantsNext surveying u) ∧
      SchedulerOk waiting ∧ TimersOk waiting ∧ grantsNext waiting 1 ∧
      ∀ s ∈ [polling, retrying false, retrying true, surveying], SchedulerOk s ∧ TimersOk s := by
  refine ⟨mixed_scheduler, mixed_timers, by decide +kernel, by decide +kernel, ?_, ?_, by decide +kernel, by decide +kernel,
    ?_, by decide +kernel, ?_, ?_, ?_, ?_, ?_, waiting_scheduler, line_states_timers _ (by simp), waiting_grants,
    fun s h => ⟨line_states_scheduler s h, line_states_timers s (List.mem_append_left [waiting] h)⟩⟩
  · exact ⟨_, rfl, by decide +kernel, by decide +kernel⟩
  · exact ⟨_, rfl, by decide +kernel, by decide +kernel⟩
  · exact ⟨_, rfl, by decide +kernel, by decide +kernel, ⟨0, 100⟩, by decide +kernel, by decide +kernel⟩
  · intro r h w
    obtain ⟨-, -, d, hd, he⟩ := w
    have h0 : (atMs 99 noHalts).zone? 1 1 = some ((noHalts.zone? 1 1).getD (ZoneRec.created 1 1)) := by decide +kernel
    have hr := Option.some.inj (h.symm.trans h0)
    have hp : r.pollDue = some ⟨0, 100⟩ := by rw [hr]; decide +kernel
    obtain rfl := Option.some.inj (hd.symm.trans hp)
    exact absurd he (by decide)
  · exact ⟨_, rfl, ⟨by decide +kernel, by decide +kernel, by decide +kernel⟩, noPoll_of (by decide +kernel), by decide +kernel, by decide +kernel⟩
  · exact ⟨_, rfl, ⟨by decide +kernel, by decide +kernel, by decide +kernel⟩, noPoll_of (by decide +kernel), by decide +kernel⟩
  · exact ⟨_, rfl, by decide +kernel, by decide +kernel⟩
  · rintro u ⟨-, i, -, -, h, -⟩
    exact absurd h.2.2.1 (by decide)

/-- The zones a turn passes by: none waits below the retry of zone 3, or anywhere in the states of the grant and the
survey. -/
theorem witness_TurnTakesTheFirstPlaceWithWork_passed :
    (∀ b, ∀ r ∈ (retrying b).zones, r.zone < 3 → ¬ haltWaits r ∧ ¬ pollWaits (retrying b) r ∧ ¬ retryWaits r) ∧
      (∀ r ∈ waiting.zones, ¬ haltWaits r ∧ ¬ pollWaits waiting r ∧ ¬ retryWaits r) ∧
      ∀ r ∈ surveying.zones, ¬ haltWaits r ∧ ¬ pollWaits surveying r ∧ ¬ retryWaits r := by
  have h1 : ∀ b, ∀ r ∈ (retrying b).zones, r.zone < 3 →
      (r.haltPending || r.pollIsDue (retrying b).clock.now.ms || r.retryIsDue) = false := by decide +kernel
  have h2 : ∀ s ∈ [waiting, surveying], ∀ r ∈ s.zones,
      (r.haltPending || r.pollIsDue s.clock.now.ms || r.retryIsDue) = false := by decide +kernel
  exact ⟨fun b r hr hz => idle_of (h1 b r hr hz), fun r hr => idle_of (h2 waiting (by simp) r hr),
    fun r hr => idle_of (h2 surveying (by simp) r hr)⟩

/-- The turns of the places just named: HALT of zone 2, or 6 after mark 2; the poll; the retry; a stale retry is
evaluated and the grant follows; the survey under HOLD. -/
theorem test_turns :
    let work (s : State) : Option (Nat × Verb) := ((next (.lineTurn 1) s).line 1).txn.map (fun t => (t.zone, t.verb))
    work mixed = some (2, .halt) ∧ work (withLine (fun l => { l with haltMark := some 2 }) mixed) = some (6, .halt) ∧
      work (withLine (fun l => { l with haltMark := some 6 }) mixed) = some (2, .halt) ∧ work polling = some (1, .sense) ∧
      work (retrying false) = some (3, .move) ∧ work (retrying true) = some (4, .move) ∧
      (next (.lineTurn 1) (retrying true)).queue 1 = [5, 3] ∧ work surveying = some (7, .sense) := by decide +kernel

/-- Addresses 63 and 0; a line sending the MOVE of a grant, and one with a SENSE. -/
theorem witness_RequestFrameIsLaidOut :
    (63 : Nat) < 64 ∧ (0 : Nat) < 64 ∧ LineOk ((next .grant waiting).line 1) ∧
      ((next .grant waiting).line 1).txn.map Txn.verb = some .move ∧ LineOk ((next (.lineTurn 1) surveying).line 1) ∧
      ((next (.lineTurn 1) surveying).line 1).txn.map Txn.verb = some .sense := by decide +kernel

/-- The poll of zone 10 on a key line of `onLine` in its phases, with the counts of the example of one poll on KL2. -/
def poll (ph : LinePhase) (now : BitVec 16) (ended' sym : Option (BitVec 16)) (y : Option Symbol) (ended : Option (BitVec 16))
    (cap : Capture) : State :=
  atEcho now (withLine (fun _ => ⟨ph, some ⟨10, .sense, none, 63000, ended', sym, y, none, ended⟩, none, cap⟩)
    (movingAt 10 (fun r => { r with target := some 271 }) onLine))

def good : Option Symbol := some ⟨2, true⟩

theorem witness_TransactionEventsFollowTheirPhases :
    let empty := Capture.empty
    let armed : Capture := ⟨none, none, true⟩
    44 ≤ ((63044 : BitVec 16) - 63000).toNat ∧ ((63043 : BitVec 16) - 63000).toNat < 44 ∧
      ((poll .sending 63044 none none none none empty).line 1).phase = .sending ∧
      ((poll .awaitStatus 63046 (some 63044) none none none empty).line 1).phase = .awaitStatus ∧
      2 ≤ ((63046 : BitVec 16) - 63044).toNat ∧ ((65046 : BitVec 16) - 63044).toNat ≤ 2002 ∧
      ((63045 : BitVec 16) - 63044).toNat < 2 ∧ 2002 < ((65047 : BitVec 16) - 63044).toNat ∧
      ((poll .receivingStatus 63414 (some 63044) (some 63396) none none empty).line 1).phase = .receivingStatus ∧
      18 ≤ ((63414 : BitVec 16) - 63396).toNat ∧ ((63413 : BitVec 16) - 63396).toNat < 18 ∧
      ((poll .awaitEcho 63514 (some 63044) (some 63396) good none armed).line 1).phase = .awaitEcho ∧
      ((poll .awaitEcho 63514 (some 63044) (some 63396) good none armed).line 1).capture.armed = true ∧
      ((63514 : BitVec 16) - 63044).toNat ≤ 12000 ∧ 12000 < ((9509 : BitVec 16) - 63044).toNat ∧
      ((poll .resting 1287 (some 63044) (some 63396) good (some 1187) empty).line 1).phase = .resting ∧
      100 ≤ ((1287 : BitVec 16) - 1187).toNat ∧ ((1286 : BitVec 16) - 1187).toNat < 100 := by decide +kernel

/-- The end of a rest with nothing waiting for its line. -/
theorem witness_TransactionEventsFollowTheirPhases_rest :
    let s := poll .resting 1287 (some 63044) (some 63396) good (some 1187) .empty
    (s.line 1).txn.map Txn.endedAt = some (some 1187) ∧ s.queue 1 = [] ∧
      ∀ r ∈ s.zones, r.unit = 1 → ¬ haltWaits r ∧ ¬ pollWaits s r ∧ ¬ retryWaits r ∧ ¬ surveyWaits r := by
  refine ⟨by decide +kernel, by decide +kernel, fun r hr _ => ?_⟩
  have h : ∀ r ∈ (poll .resting 1287 (some 63044) (some 63396) good (some 1187) .empty).zones,
      (r.haltPending || r.pollIsDue (poll .resting 1287 (some 63044) (some 63396) good (some 1187) .empty).clock.now.ms ||
        r.retryIsDue) = false ∧ r.state ≠ .unknown := by decide +kernel
  have ⟨a, b, c⟩ := idle_of (h r hr).1
  exact ⟨a, b, c, fun w => (h r hr).2 w.1⟩

/-- After the rest the line is FREE, or SENDING the MOVE of a zone that waits in its queue. -/
theorem test_rest_end :
    let s := poll .resting 1287 (some 63044) (some 63396) good (some 1187) .empty
    ((next (.restEnd 1) s).line 1).phase = .free ∧
      ((next (.restEnd 1) (queuedAt 4 s)).line 1).txn.map (fun x => (x.zone, x.verb)) = some (4, .move) := by
  decide +kernel

/-- The example of one poll on KL2, event by event, each from the phase before it. -/
theorem test_one_poll :
    ((next (.requestFrameEnd 1) (poll .sending 63044 none none none none .empty)).line 1).txn.map Txn.reqEnd = some (some 63044) ∧
      ((next (.requestFrameEnd 1) (poll .sending 63043 none none none none .empty)).line 1).phase = .sending ∧
      ((next (.statusSymbolStart 1) (poll .awaitStatus 63396 (some 63044) none none none .empty)).line 1).phase = .receivingStatus ∧
      ((next (.statusSymbol 1 2 true false) (poll .receivingStatus 63414 (some 63044) (some 63396) none none .empty)).line 1).txn.map
        Txn.symbol = some good ∧
      ((next (.echoRisingEdge 1) (poll .awaitEcho 63514 (some 63044) (some 63396) good none ⟨none, none, true⟩)).line 1).capture =
        ⟨some 63514, none, true⟩ ∧
      ((next (.restEnd 1) (poll .resting 1287 (some 63044) (some 63396) good (some 1187) .empty)).line 1).txn.map Txn.zone =
        none := by decide +kernel

/-- R135: the parity bit makes the ones of code and parity even; code 00 and a high stop bit are bad. -/
theorem test_symbol_verdicts :
    symbolGood 1 true false = true ∧ symbolGood 2 true false = true ∧ symbolGood 3 false false = true ∧
      symbolGood 3 true false = false ∧ symbolGood 0 false false = false ∧ symbolGood 1 true true = false := by decide

theorem witness_FailedTransactionsAreCounted :
    let s ph now := poll ph now (some 100) none none none .empty
    RecordsOk (s .awaitStatus 2100) ∧ ((s .awaitStatus 2100).line 1).phase = .awaitStatus ∧
      ((s .awaitStatus 2100).line 1).txn = some ⟨10, .sense, none, 63000, some 100, none, none, none, none⟩ ∧
      ((s .awaitStatus 2100).zone? 1 10).isSome ∧ 2000 ≤ ((2100 : BitVec 16) - 100).toNat ∧
      ((2099 : BitVec 16) - 100).toNat < 2000 ∧ ((s .echo 12100).line 1).phase = .echo ∧
      12000 ≤ ((12100 : BitVec 16) - 100).toNat ∧ ((12099 : BitVec 16) - 100).toNat < 12000 := by decide +kernel

/-- A first failure is counted; the third makes the zone FAULTED and posts KEY_ALERT. -/
theorem test_no_reply :
    let s n := withZone 10 (fun r => { r with failures := n }) (poll .awaitStatus 2100 (some 100) none none none .empty)
    let zone n := ((next (.noReply 1) (s n)).zone? 1 10).map (fun r => (r.state, r.failures))
    zone 0 = some (.moving, 1) ∧ zone 1 = some (.moving, 2) ∧ zone 2 = some (.faulted, 3) ∧
      ((next (.noReply 1) (s 2)).port .console).notices = 16 := by decide +kernel

/-- Zone 10 in ECHO, its record changed by `f`, its transaction's verb and its symbol's code as given. -/
def echoing (f : ZoneRec → ZoneRec) (v : Verb) (code : BitVec 2) : State :=
  withZone 10 f (atMs 9000 (atEcho 1187 (withLine
    (fun _ => ⟨.echo, some ⟨10, v, none, 63000, some 63044, some 63396, some ⟨code, true⟩, none, none⟩, none,
      ⟨some 63514, none, true⟩⟩) (movingAt 10 (fun r => { r with target := some 271 }) onLine))))

/-- The hypotheses common to the clauses; the width and position of the example; the ages about the move limit of 8 s;
each key state, reason, verb and count that a clause names is a record field free in `echoing`. -/
theorem witness_EchoEndTakesTheReply :
    (∀ f : ZoneRec → ZoneRec, (∀ r, (f r).unit = r.unit ∧ (f r).zone = r.zone) → RecordsOk (echoing f .sense 2)) ∧
      ((echoing id .sense 2).line 1).phase = .echo ∧ ((echoing id .sense 2).zone? 1 10).isSome ∧
      ((echoing id .sense 2).clock.echo - 63044).toNat ≤ 12000 ∧ ((1187 : BitVec 16) - 63514).toNat = 3209 ∧
      echoValue ((echoing id .sense 2).calEntry 1 10) 3209 = 271 ∧ 8000 < ((9000 : BitVec 32) - 999).toNat ∧
      ((9000 : BitVec 32) - 1000).toNat ≤ 8000 ∧ (onLine.line 1).phase ≠ .echo ∧
      12000 < ((atEcho 9509 (echoing id .sense 2)).clock.echo - 63044).toNat ∧
      ((atEcho 9509 (echoing id .sense 2)).line 1).txn.map Txn.reqEnd = some (some 63044) := by
  refine ⟨fun f h => ?_, by decide +kernel, by decide +kernel, by decide +kernel, by decide, ?_⟩
  rotate_left
  · decide +kernel
  have h0 : RecordsOk (echoing id .sense 2) := by decide +kernel
  refine ⟨h0.1, ?_⟩
  have e1 := State.modZone_pairs
    (atMs 9000 (atEcho 1187 (withLine
      (fun _ => ⟨.echo, some ⟨10, .sense, none, 63000, some 63044, some 63396, some ⟨2, true⟩, none, none⟩, none,
        ⟨some 63514, none, true⟩⟩) (movingAt 10 (fun r => { r with target := some 271 }) onLine)))) 1 10 f h
  have e2 := State.modZone_pairs
    (atMs 9000 (atEcho 1187 (withLine
      (fun _ => ⟨.echo, some ⟨10, .sense, none, 63000, some 63044, some 63396, some ⟨2, true⟩, none, none⟩, none,
        ⟨some 63514, none, true⟩⟩) (movingAt 10 (fun r => { r with target := some 271 }) onLine)))) 1 10 id
    (fun _ => ⟨rfl, rfl⟩)
  exact (e1.trans e2.symm).trans h0.2

/-- Records for the clauses: DISABLED; UNKNOWN without and with a halt pending; QUEUED; MOVING as it stands, with
DISABLE or TIMEOUT, without target, stale off target, and off target after one and two retries. -/
def cases : List (ZoneRec → ZoneRec) :=
  [fun r => { r with state := .disabled }, fun r => { r with state := .unknown },
    fun r => { r with state := .unknown, halts := { r.halts with disable := true } },
    fun r => { r with state := .queued }, id, fun r => { r with halts := { r.halts with disable := true } },
    fun r => { r with halts := { r.halts with timeout := true } }, fun r => { r with target := none },
    fun r => { r with target := some 276, stale := true }, fun r => { r with target := some 276, retries := 1 },
    fun r => { r with target := some 276, retries := 2 }]

/-- The record of zone 10 in each case, as the clauses name it. -/
def caseOf (f : ZoneRec → ZoneRec) : ZoneRec := ((echoing f .sense 2).zone? 1 10).getD (ZoneRec.created 0 0)

theorem witness_EchoEndTakesTheReply_records :
    cases.map (fun f => (caseOf f).state) =
        [.disabled, .unknown, .unknown, .queued, .moving, .moving, .moving, .moving, .moving, .moving, .moving] ∧
      cases.map (fun f => (caseOf f).halts.any) =
        [false, false, true, false, false, true, true, false, false, false, false] ∧
      cases.map (fun f => (caseOf f).target) = List.replicate 7 (some 271) ++ [none] ++ List.replicate 3 (some 276) ∧
      (cases.drop 8).map (fun f => ((caseOf f).stale, (caseOf f).retries)) = [(true, 0), (false, 1), (false, 2)] ∧
      onLine.limits.tolerance = 4 ∧ distance 271 271 ≤ 4 ∧ ¬ distance 271 276 ≤ 4 ∧
      (⟨0, false⟩ : Symbol).good ≠ true ∧ onLine.press.freeze.filtered = false := by
  unfold distance; decide +kernel

/-- The reply of the example settles zone 10 at 271; a stalled key is BLOCKED; off the target, retries come first, then
MISSED; a stopped HALT disables; a RUNNING reply beyond the move limit asks for a HALT. -/
theorem test_echo_end :
    let zone f v code := ((next (.echoEnd 1) (echoing f v code)).zone? 1 10).map (fun r => (r.state, r.measured, r.retries))
    let off n (r : ZoneRec) : ZoneRec := { r with target := some 276, retries := n }
    let halt (r : ZoneRec) : ZoneRec := { r with halts := { r.halts with disable := true } }
    zone id .sense 2 = some (.settled, some 271, 0) ∧ zone id .sense 3 = some (.blocked, some 271, 0) ∧
      zone (off 1) .sense 2 = some (.moving, some 271, 2) ∧ zone (off 2) .sense 2 = some (.missed, some 271, 2) ∧
      zone halt .halt 2 = some (.disabled, some 271, 0) ∧
      ((next (.echoEnd 1) (echoing id .sense 1)).zone? 1 10).map (fun r => r.halts.timeout) = some true ∧
      ((next (.echoEnd 1) (echoing (fun r => { r with moveStart := some 1000 }) .sense 1)).zone? 1 10).map
        (fun r => (r.halts.timeout, r.pollDue)) = some (false, some ⟨9000, 100⟩) := by decide +kernel

/-! ### Witnesses: press signals, supply, laws -/

theorem witness_SheetEdgesAreSpaced :
    run0.press.sheetPin = false ∧ run0.press.phase = .running ∧ run0.press.lastEdge = none ∧
      5000 ≤ elapsedUs ⟨205, 0⟩ ⟨200, 0⟩ ∧ elapsedUs ⟨204, 999⟩ ⟨200, 0⟩ < 5000 ∧ State.reset.press.phase ≠ .running ∧
      ({ run0.press with sheetPin := true }).sheetPin = true := by decide +kernel

/-- A level whose raw change to `v` stands since time 0. -/
def changing (v : Bool) : Level := ⟨v, !v, some ⟨v, ⟨0, 0⟩⟩⟩
def frozenSoon (v : Bool) (s : State) : State := { atMs 1 s with press := { s.press with freeze := changing v } }

theorem changeDue_of {s : State} {v : Bool} (h : 1000 ≤ elapsedUs s.clock.now ⟨0, 0⟩) : changeDue s (changing v) v :=
  ⟨_, rfl, h⟩

theorem witness_FiltersHoldForOneMillisecond :
    let s : State := { atMs 1 run0 with press := { run0.press with impression := changing true } }
    let early : State := { s with clock := { s.clock with now := ⟨0, 999⟩ } }
    s.press.phase = .running ∧ changeDue s s.press.impression true ∧ (∀ v, ¬ changeDue early early.press.impression v) ∧
      State.reset.press.phase ≠ .running := by
  refine ⟨rfl, changeDue_of (by decide +kernel), fun v ⟨since, h, h1⟩ => ?_, by decide⟩
  have h2 := congrArg (fun o => o.map Pending.since) h
  simp only [Option.map_some, Option.some.injEq, changing] at h2
  rw [← h2] at h1
  exact absurd h1 (by decide +kernel)

theorem witness_FreezeHaltsEveryMovingZone :
    (frozenSoon true mixed).press.phase = .running ∧ SchedulerOk (frozenSoon true mixed) ∧
      changeDue (frozenSoon true mixed) (frozenSoon true mixed).press.freeze true ∧
      changeDue (frozenSoon false onLine) (frozenSoon false onLine).press.freeze false :=
  ⟨rfl, scheduler_of (by decide +kernel) (by decide +kernel) (by decide +kernel), changeDue_of (by decide +kernel), changeDue_of (by decide +kernel)⟩

/-- FREEZE halts zones 1 and 2 and requeues zone 3, whose retry was due, behind zones 4 and 5. -/
theorem test_freeze :
    let t := next (.pressLevelFilterExpiry .freeze) (frozenSoon true mixed)
    (t.zones.take 3).map (fun r => (r.state, r.halts.freeze, r.retries)) =
        [(.moving, true, 0), (.moving, true, 0), (.queued, false, 1)] ∧ t.queue 1 = [4, 5, 3] ∧
      (t.port .console).notices = 128 ∧ (t.port .loop).notices = 128 := by decide +kernel

def supplyChange (v : Bool) (k : SupplyState) (s : State) : State :=
  { atMs 1 s with supply := { s.supply with state := k, ok := changing v } }

theorem witness_SupplyStateMovesUnderItsRules :
    (supplyChange true .warming onLine).press.phase = .running ∧
      changeDue (supplyChange true .warming onLine) (supplyChange true .warming onLine).supply.ok true ∧
      (supplyChange true .warming onLine).supply.state = .warming ∧
      changeDue (supplyChange true .off onLine) (supplyChange true .off onLine).supply.ok true ∧
      (supplyChange true .off onLine).supply.state ≠ .warming ∧ SchedulerOk (supplyChange false .on mixed) ∧
      changeDue (supplyChange false .on mixed) (supplyChange false .on mixed).supply.ok false ∧
      (supplyChange false .on mixed).supply.state = .on ∧ 2000 ≤ ((2000 : BitVec 32) - 0).toNat ∧
      ((1999 : BitVec 32) - 0).toNat < 2000 ∧ onLine.supply.state = .on ∧ (∀ q ∈ onLine.queues.toList, q = []) ∧
      (∀ r ∈ onLine.zones, r.state ≠ .moving) ∧ onLine.supply.standby = some ⟨0, 60000⟩ ∧
      60000 ≤ ((60000 : BitVec 32) - 0).toNat ∧ ((59999 : BitVec 32) - 0).toNat < 60000 ∧ mixed.supply.standby = none :=
  ⟨rfl, changeDue_of (by decide +kernel), rfl, changeDue_of (by decide +kernel), by decide +kernel,
    scheduler_of (by decide +kernel) (by decide +kernel) (by decide +kernel),
    changeDue_of (by decide +kernel), rfl, by decide, by decide, rfl, by decide +kernel, by decide +kernel, rfl, by decide,
    by decide, rfl⟩

/-- A supply loss requeues zones 1, 2 and 3 behind zones 4 and 5 and posts SUPPLY_ALERT to the Console Port. -/
theorem test_supply_loss :
    let t := next .supplyOkFilterExpiry (supplyChange false .on mixed)
    t.supply.state = .failed ∧ t.movingCount = 0 ∧ t.queue 1 = [4, 5, 1, 2, 3] ∧ (t.port .console).notices = 64 := by
  decide +kernel

/-- The standby timer and the warm-up limit at their ends. -/
theorem test_supply_timers :
    (next .standbyTimerExpiry (atMs 60000 onLine)).supply.state = .off ∧
      (next .standbyTimerExpiry (atMs 59999 onLine)).supply.state = .on ∧
      (let s n := atMs n { onLine with supply := { onLine.supply with state := .warming, warmUp := some 0, standby := none } };
        (next .warmUpLimitExpiry (s 2000)).supply.state = .failed ∧ (next .warmUpLimitExpiry (s 1999)).supply.state = .warming) := by
  decide +kernel

/-- A grant from the scheduler's laws, as a step of the machine. -/
theorem witness_EveryStepKeepsTheSchedulerLaws :
    let s := { waiting with pending := [.grant] }
    SchedulerOk s ∧ ∃ t, step s = .next t :=
  ⟨scheduler_of (by decide +kernel) (by decide +kernel) (by decide +kernel), step_next .grant waiting (by decide +kernel)⟩

/-- TAKE JOB from a state that meets every law of the tables. -/
theorem witness_EveryStepKeepsTheTableLaws :
    let s := { ready with pending := [.takeJob (frame .console [])] }
    CurvesOk s ∧ CalibrationOk s ∧ LimitsOk s ∧ TrimsOk s ∧ ReferencedDefined s ∧ SlotOk s ∧ JobOk s ∧ SlotFits s ∧
      JobFits s ∧ DeviceOk s ∧ TargetsOk s ∧ RangesOk s ∧ ∃ t, step s = .next t := by
  refine ⟨by decide +kernel, by decide +kernel, by decide +kernel, by decide +kernel, fun j h => ?_, by decide +kernel,
    fun j h => ?_, by decide +kernel, fun j h => ?_, by decide +kernel, by decide +kernel, by decide +kernel,
    step_next (.takeJob (frame .console [])) ready (by decide +kernel)⟩
  all_goals cases h

theorem computed_printing : ∀ r ∈ printing.zones, setPoint printing job7 r = r := by decide +kernel

theorem witness_EveryStepKeepsTargetsComputed :
    let s := { printing with pending := [.setSweep (frame .console [1, 100])] }
    RecordsOk s ∧ DeviceOk s ∧ ComputedOk s ∧ ∃ t, step s = .next t := by
  refine ⟨by decide +kernel, by decide +kernel, fun j h => ?_, step_next (.setSweep (frame .console [1, 100])) printing (by decide +kernel)⟩
  cases h; exact computed_printing

theorem witness_EveryStepKeepsLinesAndTimers :
    let s := { mixed with pending := [.lineTurn 1] }
    LinesOk s ∧ SchedulerOk s ∧ DeviceOk s ∧ TimersOk s ∧ ∃ t, step s = .next t :=
  ⟨by decide +kernel, scheduler_of (by decide +kernel) (by decide +kernel) (by decide +kernel), by decide +kernel, by decide +kernel, step_next (.lineTurn 1) mixed (by decide +kernel)⟩

/-- STAGE DATA on the Job Port, APPLY DEVIATIONS on the Loop Port, and TAKE JOB and SET SWEEP on the Console Port. -/
theorem witness_MastersKeepTheirDivisionOfWork :
    RecordsOk (staging 0 []) ∧ RecordsOk printing ∧ RecordsOk ready ∧
      (frame .job [1, 500]).port = .job ∧ (frame .loop [1, 0, 200, 2, 1, 85]).port = .loop ∧
      (frame .console []).port = .console ∧
      exec (command .stageData (frame .job [1, 500])) (staging 0 []) =
        .next (next (command .stageData (frame .job [1, 500])) (staging 0 [])) ∧
      exec (command .applyDeviations (frame .loop [1, 0, 200, 2, 1, 85])) printing =
        .next (next (command .applyDeviations (frame .loop [1, 0, 200, 2, 1, 85])) printing) ∧
      exec (command .takeJob (frame .console [])) ready = .next (next (command .takeJob (frame .console [])) ready) :=
  ⟨by decide +kernel, by decide +kernel, by decide +kernel, rfl, rfl, rfl, exec_next (by decide +kernel),
    exec_next (by decide +kernel), exec_next (by decide +kernel)⟩

end Sys2Proof.Tests
end

section
/-! PROOF. What a request does that a free port takes, and IDENTIFY (R16). -/

namespace Sys2Proof.Claims

open Sys2Proof.Machine Sys2Proof.Safety

/-! ### A request taken at a free port -/

theorem Free.not_busy {s : State} {p : Port} (h : Free s p) : (s.port p).isBusy = false := by
  obtain ⟨-, hcmd⟩ := h
  rw [Bool.eq_false_iff]
  intro hb
  obtain ⟨r, b, e⟩ := (PortCtl.isBusy_iff _).mp hb
  exact hcmd r b e

/-- A frame under the count of its own words matches a request that requires as many. -/
theorem Carries.frame_matches {f : Frame} {p : Port} {ws : List Word} (h : Carries f p ws) {q : Req}
    (hq : reqOperands q ws = some ws.length) : frameMatches q f = true := by
  obtain ⟨-, hcount, rfl, hwhole, hlen⟩ := h
  have hn : (BitVec.ofNat 16 f.words.length).toNat = f.words.length := by
    rw [BitVec.toNat_ofNat]; omega
  exact frameMatches_iff.mpr ⟨_, hcount, hwhole, hn.symm, by omega, by rw [hq, hn]⟩

/-- A matching frame passes steps 2 to 4 of R177 where its port is allowed and the device as the request needs it. -/
theorem Carries.passes {f : Frame} {p : Port} {ws : List Word} (h : Carries f p ws) {q : Req}
    {d : DeviceState} (hq : reqOperands q ws = some ws.length) (hp : reqAllowed q p = true)
    (hd : reqNeedsConfigured q = true → d ≠ .unconfigured) : frameRefusal q f d = none := by
  have hmatches := h.frame_matches hq
  obtain ⟨rfl, -⟩ := h
  exact frameRefusal_eq_none.mpr ⟨hmatches, hp, hd⟩

theorem note_eq_append (k : Kept) (p : Port) (w : Option TableWrite) :
    k.note p w = { k with underWay := k.underWay ++ w.toList.map (fun v => (p, v)) } := by
  cases w <;> simp [Kept.note]

/-- The execution that begins after the leading word 0 leaves the answer of the statements. -/
theorem beginExecution_shiftZero (t : State) (f : Frame) (code : BitVec 8) (o : ResultCode) (data : List Word)
    (w : Option TableWrite) :
    (t.shiftZero f.port).beginExecution f.port code f.tag ⟨o, data⟩ w = answersWith w f code o data t := by
  have h := State.modPort_modPort { t with kept := t.kept.note f.port w } f.port (fun c => { c with out := [0] })
    (fun c => { c with cmd := .busy ⟨code, f.tag, o, data⟩ false })
  rw [answersWith, ← note_eq_append]
  exact h

/-- A request that passes steps 1 to 4 of R177 at a free port leaves the state `t` and the answer `a` of its own
meaning, which keeps the leading word 0 the port has shifted out. -/
theorem runRequest_of_free {s t : State} {q : Req} {f : Frame} {a : Answer}
    {body : List Word → State → State × Answer} (hfree : Free s f.port) (hpass : frameRefusal q f s.device = none)
    (hbody : body f.words (s.shiftZero f.port) = (t.shiftZero f.port, a)) :
    runRequest q f body s =
      .next (answersWith (tableWrite q f.words a.outcome (t.shiftZero f.port)) f (reqCode q) a.outcome a.data t) := by
  have hidle := hfree.not_busy
  obtain ⟨hrunning, -⟩ := hfree
  have hpass' : frameRefusal q f (s.shiftZero f.port).device = none := hpass
  rw [runRequest, takeRequest_of_free f _ hrunning hidle, judged_of_accept body hpass', hbody]
  exact congrArg _ (beginExecution_shiftZero t f (reqCode q) a.outcome a.data _)

/-- A readout at a free port is answered with OK and its data, and changes the port alone; the data do not depend on the
port's shifted words. -/
theorem runRequest_readout {s : State} {q : Req} {f : Frame} (hfree : Free s f.port)
    (hpass : frameRefusal q f s.device = none) (data : State → List Word)
    (hdata : data (s.shiftZero f.port) = data s) (hwrite : ∀ ws t, tableWrite q ws .ok t = none) :
    runRequest q f (fun _ t => accept t (data t)) s = .next (answers f (reqCode q) .ok (data s) s) := by
  rw [runRequest_of_free (t := s) (a := ⟨.ok, data s⟩) hfree hpass (by rw [accept, hdata]), hwrite, answers]

/-! ### IDENTIFY -/

theorem exec_identify (f : Frame) (s : State) :
    exec (.identify f) s = runRequest .identify f (fun _ t => accept t (identifyData t)) s := by
  rfl

/-- The data of IDENTIFY are the part's six figures, N and each Nz in order. -/
theorem identifyData_eq (s : State) :
    identifyData s = [2102, 1, 8, 36, 16, 24, num s.nz.length] ++ s.nz.map num := by
  rw [identifyData, List.map_append]
  rfl

/-- Every port and every device state takes a matching IDENTIFY (R16). -/
theorem exec_identify_of_free {s : State} {f : Frame} {p : Port} (hfree : Free s p) (hf : Carries f p []) :
    exec (.identify f) s =
      .next (answers f 1 .ok ([2102, 1, 8, 36, 16, 24, num s.nz.length] ++ s.nz.map num) s) := by
  have hpass : frameRefusal .identify f s.device = none :=
    hf.passes rfl rfl (fun h => absurd h (by decide))
  obtain ⟨rfl, -⟩ := hf
  rw [exec_identify, runRequest_readout hfree hpass identifyData rfl
    (fun ws t => tableWrite_of_other ws .ok t nofun nofun nofun), identifyData_eq]
  rfl

/-- Settles O10: the answer is the same in every device state, and without configured units its list of Nz is empty. -/
theorem identifyReportsTheFigures : Obligations.IdentifyReportsTheFigures := by
  intro s f p hfree hf
  refine ⟨exec_identify_of_free hfree hf, fun ⟨hdevice, _⟩ hunconfigured => ?_⟩
  have hnz : s.nz = [] := hdevice.mp hunconfigured
  rw [exec_identify_of_free hfree hf, hnz]
  rfl

end Sys2Proof.Claims
end

section
/-! PROOF. The spread stage (R59, R60) and the curve stage (R61, R62). -/

namespace Sys2Proof.Claims

open Sys2Proof.Machine Sys2Proof.Safety

/-! ### The spread stage -/

/-- The model judges a neighbour below zone 1 as zone 0, which lies before every first open zone (R60). -/
theorem neighbourValue_toNat (s : State) {p : UnitParams} (u z c : Nat) (d : Int) (hfirst : 1 ≤ p.first) :
    neighbourValue s.zones p u ((z : Int) + d).toNat c = neighbour s p u z c d := by
  have hinside : (p.first ≤ ((z : Int) + d).toNat ∧ ((z : Int) + d).toNat ≤ p.last ∧ ((z : Int) + d).toNat ≠ 0) ↔
      ((p.first : Int) ≤ z + d ∧ z + d ≤ (p.last : Int)) := by omega
  unfold neighbourValue neighbour
  simp only [hinside]
  rfl

/-- A neighbour outside the sheet width has the zone's own coverage in its place (R60). -/
theorem neighbour_of_outside (s : State) {p : UnitParams} (u c : Nat) {z : Nat} {d : Int}
    (h : (z : Int) + d < p.first ∨ (p.last : Int) < z + d) : neighbour s p u z c d = c :=
  if_neg (by omega)

/-- The spread stage, its four neighbours named by their distance (R59). -/
theorem spread_eq (s : State) {p : UnitParams} (u z c : Nat) (hfirst : 1 ≤ p.first) :
    spread s.zones p u z c =
      roundHalfUp ((64 - 2 * p.s1 - 2 * p.s2) * c + p.s1 * (neighbour s p u z c (-1) + neighbour s p u z c 1) +
        p.s2 * (neighbour s p u z c (-2) + neighbour s p u z c 2)) 64 := by
  have hbelow1 : ((z : Int) + -1).toNat = z - 1 := by omega
  have habove1 : ((z : Int) + 1).toNat = z + 1 := by omega
  have hbelow2 : ((z : Int) + -2).toNat = z - 2 := by omega
  have habove2 : ((z : Int) + 2).toNat = z + 2 := by omega
  simp only [← neighbourValue_toNat s u z c _ hfirst, hbelow1, habove1, hbelow2, habove2]
  rfl

/-- An open zone's record takes the result of the spread stage (R58, R59). -/
theorem setPoint_effective_of_open {s : State} {j : ActiveJob} {r : ZoneRec} {p : UnitParams} {c : Nat}
    (hp : j.record? r.unit = some p) (hfirst : p.first ≤ r.zone) (hlast : r.zone ≤ p.last) (hc : r.coverage = some c) :
    (setPoint s j r).effective = some (spread s.zones p r.unit r.zone c) := by
  have hopen : p.closes r.zone = false := by simp [UnitParams.closes, hfirst, hlast]
  simp [setPoint, openingOf, hp, hopen, hc]

/-- A weighted sum whose weights `w`, `a` twice and `b` twice sum to `n` lies between `n` times its bounds. -/
theorem weightedSum_between {w a b n lo hi c x₁ x₂ y₁ y₂ : Nat} (hw : w + 2 * a + 2 * b = n)
    (hv : ∀ x ∈ [c, y₁, x₁, x₂, y₂], lo ≤ x ∧ x ≤ hi) :
    lo * n ≤ w * c + a * (x₁ + x₂) + b * (y₁ + y₂) ∧ w * c + a * (x₁ + x₂) + b * (y₁ + y₂) ≤ hi * n := by
  have hsplit : ∀ k, k * n = w * k + a * (k + k) + b * (k + k) := fun k => by rw [← hw]; ring
  simp only [List.forall_mem_cons] at hv
  obtain ⟨⟨hc, hc'⟩, ⟨hy₁, hy₁'⟩, ⟨hx₁, hx₁'⟩, ⟨hx₂, hx₂'⟩, ⟨hy₂, hy₂'⟩, -⟩ := hv
  rw [hsplit lo, hsplit hi]
  constructor <;> gcongr

/-- Settles O29: the weights sum to 64, so the rounded sum over 64 stays between bounds of its five values. -/
theorem spreadIsAMeanOfItsValues : Obligations.SpreadIsAMeanOfItsValues := by
  intro s j r p c hp hs1 hs2 hfirst hz hz' hc v w0 e
  have hsum : w0 + 2 * p.s1 + 2 * p.s2 = 64 := by omega
  have hmean : ∀ lo hi, (∀ x ∈ [c, v (-2), v (-1), v 1, v 2], lo ≤ x ∧ x ≤ hi) → lo ≤ e ∧ e ≤ hi := fun lo hi hv =>
    have ⟨hlo, hhi⟩ := weightedSum_between hsum hv
    roundHalfUp_between (by decide) hlo hhi
  refine ⟨?_, hsum, by omega, hmean, fun h1 h2 => ?_, fun hone => ?_⟩
  · rw [setPoint_effective_of_open hp hz hz' hc, spread_eq s _ _ _ hfirst]
  · have he : e = roundHalfUp (c * 64) 64 := by simp [e, w0, h1, h2, Nat.mul_comm]
    rw [he, roundHalfUp_mul c (by decide)]
  · have hv : ∀ d, d ≠ 0 → v d = c := fun d hd => neighbour_of_outside s _ c (by omega)
    have ⟨hlo, hhi⟩ := hmean c c (by simp [hv])
    exact Nat.le_antisymm hhi hlo

/-! ### The curve stage -/

/-- An effective coverage at the first breakpoint takes its opening. -/
theorem curveOpening_head (a : Breakpoint) (rest : List Breakpoint) : curveOpening (a :: rest) a.x = a.y := by
  cases rest <;> simp [curveOpening]

/-- Strictly inside the first segment the opening is interpolated (R62). -/
theorem curveOpening_first_segment {a b : Breakpoint} {e : Nat} (rest : List Breakpoint) (ha : a.x < e) (hb : e < b.x) :
    curveOpening (a :: b :: rest) e = a.y + roundHalfUp ((e - a.x) * (b.y - a.y)) (b.x - a.x) := by
  rw [curveOpening, if_neg (by omega), if_pos hb]

/-- From the second breakpoint on, the first has no part in the opening. -/
theorem curveOpening_later {a b : Breakpoint} {e : Nat} (rest : List Breakpoint) (ha : a.x < b.x) (hb : b.x ≤ e) :
    curveOpening (a :: b :: rest) e = curveOpening (b :: rest) e := by
  rw [curveOpening, if_neg (by omega), if_neg (by omega)]

/-- The abscissas of a list of breakpoints rise strictly and its openings never fall (R19), as `CurveOk` asks. -/
abbrev Ascending (l : List Breakpoint) : Prop := l.Pairwise (fun a b => a.x < b.x ∧ a.y ≤ b.y)

/-- The first abscissa of an ascending list is its least. -/
theorem head_x_le {a q : Breakpoint} {rest : List Breakpoint} (h : Ascending (a :: rest)) (hq : q ∈ a :: rest) :
    a.x ≤ q.x := by
  rcases List.mem_cons.mp hq with rfl | hq
  · exact le_rfl
  · exact (List.rel_of_pairwise_cons h hq).1.le

/-- R61: an effective coverage at a breakpoint takes its opening. -/
theorem curveOpening_at_breakpoint {l : List Breakpoint} (h : Ascending l) {q : Breakpoint} (hq : q ∈ l) :
    curveOpening l q.x = q.y := by
  induction l with
  | nil => cases hq
  | cons a l ih =>
    rcases List.mem_cons.mp hq with rfl | hq
    · exact curveOpening_head q l
    · cases l with
      | nil => cases hq
      | cons b rest =>
        rw [curveOpening_later rest (List.rel_of_pairwise_cons h List.mem_cons_self).1 (head_x_le h.of_cons hq)]
        exact ih h.of_cons hq

/-- R62: strictly inside any segment of an ascending list the opening is interpolated between its ends. -/
theorem curveOpening_on_segment {l : List Breakpoint} (h : Ascending l) {i e : Nat} {lo hi : Breakpoint}
    (hlo : l[i]? = some lo) (hhi : l[i + 1]? = some hi) (hl : lo.x < e) (hr : e < hi.x) :
    curveOpening l e = lo.y + roundHalfUp ((e - lo.x) * (hi.y - lo.y)) (hi.x - lo.x) := by
  induction l generalizing i with
  | nil => cases hlo
  | cons a l ih =>
    cases l with
    | nil => cases hhi
    | cons b rest =>
      cases i with
      | zero =>
        cases hlo
        cases hhi
        exact curveOpening_first_segment rest hl hr
      | succ i =>
        have hblo : b.x ≤ lo.x := head_x_le h.of_cons (List.mem_of_getElem? hlo)
        rw [curveOpening_later rest (List.rel_of_pairwise_cons h List.mem_cons_self).1 (by omega)]
        exact ih h.of_cons hlo hhi

/-- R62: the rounded opening stays between the openings of the segment's ends. -/
theorem interpolated_between {lo hi : Breakpoint} {e : Nat} (hy : lo.y ≤ hi.y) (hl : lo.x < e) (hr : e < hi.x) :
    lo.y ≤ lo.y + roundHalfUp ((e - lo.x) * (hi.y - lo.y)) (hi.x - lo.x) ∧
      lo.y + roundHalfUp ((e - lo.x) * (hi.y - lo.y)) (hi.x - lo.x) ≤ hi.y := by
  have hle : (e - lo.x) * (hi.y - lo.y) ≤ (hi.y - lo.y) * (hi.x - lo.x) := by
    rw [Nat.mul_comm]
    exact Nat.mul_le_mul_left _ (by omega)
  have ⟨_, hround⟩ := roundHalfUp_between (lo := 0) (by omega) (by omega) hle
  omega

/-- Between the first and the last abscissa, a value that is no breakpoint's lies strictly inside a segment (R61). -/
theorem exists_segment {l : List Breakpoint} {e : Nat} (hne : ∀ q ∈ l, q.x ≠ e) (hfirst : ∀ q ∈ l.head?, q.x ≤ e)
    (hlast : ∃ q ∈ l.getLast?, e ≤ q.x) :
    ∃ i lo hi, l[i]? = some lo ∧ l[i + 1]? = some hi ∧ lo.x < e ∧ e < hi.x := by
  induction l with
  | nil => simp at hlast
  | cons a l ih =>
    have ha : a.x < e := lt_of_le_of_ne (hfirst a rfl) (hne a List.mem_cons_self)
    cases l with
    | nil =>
      obtain ⟨q, hq, hqe⟩ := hlast
      cases List.getLast?_singleton.symm.trans hq
      omega
    | cons b rest =>
      by_cases hb : e < b.x
      · exact ⟨0, a, b, rfl, rfl, ha, hb⟩
      · have hb' : ∀ q ∈ (b :: rest).head?, q.x ≤ e := fun q hq => by cases hq; omega
        obtain ⟨i, lo, hi, hlo, hhi, hin⟩ := ih (fun q hq => hne q (List.mem_cons_of_mem a hq)) hb'
          (by rwa [List.getLast?_cons_cons] at hlast)
        exact ⟨i + 1, lo, hi, hlo, hhi, hin⟩

/-- In an ascending list a segment whose right end lies above `e` does not come before one whose left end lies below. -/
theorem segment_index_le {l : List Breakpoint} (h : Ascending l) {i k e : Nat} {lo hi : Breakpoint}
    (hlo : l[k]? = some lo) (hl : lo.x < e) (hhi : l[i + 1]? = some hi) (hr : e < hi.x) : k ≤ i := by
  by_contra hlt
  obtain ⟨hk, rfl⟩ := List.getElem?_eq_some_iff.mp hlo
  obtain ⟨hi', rfl⟩ := List.getElem?_eq_some_iff.mp hhi
  rcases (by omega : i + 1 = k ∨ i + 1 < k) with rfl | hik
  · omega
  · have := (List.pairwise_iff_getElem.mp h (i + 1) k hi' hk hik).1
    omega

/-- The ends of a segment of an ascending list ascend. -/
theorem segment_ascends {l : List Breakpoint} (h : Ascending l) {i : Nat} {lo hi : Breakpoint}
    (hlo : l[i]? = some lo) (hhi : l[i + 1]? = some hi) : lo.x < hi.x ∧ lo.y ≤ hi.y := by
  obtain ⟨hi₀, rfl⟩ := List.getElem?_eq_some_iff.mp hlo
  obtain ⟨hi₁, rfl⟩ := List.getElem?_eq_some_iff.mp hhi
  exact List.pairwise_iff_getElem.mp h i (i + 1) hi₀ hi₁ (Nat.lt_succ_self i)

/-- On a well-formed list every effective coverage that is no breakpoint's lies strictly inside a segment (R19, R61). -/
theorem exists_segment_of_curveOk {c : Curve} {e : Nat} (hc : CurveOk c) (he : e ≤ 1000) (hne : ∀ q ∈ c.points, q.x ≠ e) :
    ∃ i lo hi, c.points[i]? = some lo ∧ c.points[i + 1]? = some hi ∧ lo.x < e ∧ e < hi.x := by
  obtain ⟨-, -, -, -, hhead, hlast, -, -⟩ := hc
  obtain ⟨first, hfirst, hx₁⟩ := Option.map_eq_some_iff.mp hhead
  obtain ⟨last, hlast, hxₙ⟩ := Option.map_eq_some_iff.mp hlast
  refine exists_segment hne (fun q hq => ?_) ⟨last, hlast, by omega⟩
  cases hfirst.symm.trans hq
  omega

/-- Settles O30: a value at a breakpoint, a value inside a segment, and the one segment that holds any other value. -/
theorem curveStageInterpolates : Obligations.CurveStageInterpolates := by
  intro c e hc he b
  have ⟨_, _, _, _, _, _, hasc, h500⟩ := hc
  have hat : ∀ q ∈ c.points, q.x = e → b = q.y := by
    rintro q hq rfl
    exact curveOpening_at_breakpoint hasc hq
  have hinside : ∀ i lo hi, c.points[i]? = some lo → c.points[i + 1]? = some hi → lo.x < e → e < hi.x →
      b = lo.y + roundHalfUp ((e - lo.x) * (hi.y - lo.y)) (hi.x - lo.x) ∧ lo.y ≤ b ∧ b ≤ hi.y := by
    intro i lo hi hlo hhi hl hr
    have hb : b = _ := curveOpening_on_segment hasc hlo hhi hl hr
    exact ⟨hb, hb ▸ interpolated_between (segment_ascends hasc hlo hhi).2 hl hr⟩
  refine ⟨hat, fun i lo hi hlo hhi hl hr => ?_, fun hne => ?_, ?_⟩
  · obtain ⟨hb, hge, hle⟩ := hinside i lo hi hlo hhi hl hr
    exact ⟨hb, hge, hle, fun hy => Nat.mul_lt_mul_of_pos_right (by omega) (by omega), fun hy => by omega⟩
  · obtain ⟨i, lo, hi, hlo, hhi, hl, hr⟩ := exists_segment_of_curveOk hc he hne
    refine ⟨i, ⟨lo, hi, hlo, hhi, hl, hr⟩, fun k ⟨lo', hi', hlo', hhi', hl', hr'⟩ => Nat.le_antisymm ?_ ?_⟩
    · exact segment_index_le hasc hlo' hl' hhi hr
    · exact segment_index_le hasc hlo hl hhi' hr'
  · by_cases hbp : ∃ q ∈ c.points, q.x = e
    · obtain ⟨q, hq, hqe⟩ := hbp
      exact hat q hq hqe ▸ h500 q hq
    · obtain ⟨i, lo, hi, hlo, hhi, hl, hr⟩ := exists_segment_of_curveOk hc he (fun q hq hqe => hbp ⟨q, hq, hqe⟩)
      obtain ⟨-, -, hle⟩ := hinside i lo hi hlo hhi hl hr
      exact hle.trans (h500 hi (List.mem_of_getElem? hhi))

end Sys2Proof.Claims
end

section
/-! PROOF. The words of numbers and codes in a readout, and READ STATUS (R182). -/

namespace Sys2Proof.Claims

open Sys2Proof.Machine Sys2Proof.Safety

/-! ### Words of a readout -/

/-- Bits 16 to 31 of a 32-bit count are its quotient by 65536. -/
theorem upper_eq_upperWord (x : BitVec 32) : upper x = upperWord x := by
  rw [upper, upperWord, BitVec.extractLsb', Nat.shiftRight_eq_div_pow]

/-- Bits 0 to 15 of a 32-bit count are its remainder by 65536. -/
theorem lower_eq_lowerWord (x : BitVec 32) : lower x = lowerWord x := by
  rw [lower, lowerWord, BitVec.extractLsb', Nat.shiftRight_zero]
  exact BitVec.eq_of_toNat_eq (by simp)

theorem deviceCode_eq_deviceNumber (d : DeviceState) : deviceCode d = deviceNumber d := by
  cases d <;> rfl

theorem supplyCode_eq_supplyNumber (k : SupplyState) : supplyCode k = supplyNumber k := by
  cases k <;> rfl

/-! ### READ STATUS -/

theorem exec_readStatus (f : Frame) (s : State) :
    exec (.readStatus f) s = runRequest .readStatus f (fun _ t => accept t (statusData t)) s := by
  rfl

/-- The data of READ STATUS are the nine words of its table in order (R182). -/
theorem statusData_eq (s : State) :
    statusData s =
      [num (deviceNumber s.device), upperWord s.press.sheets, lowerWord s.press.sheets,
        flag s.press.impression.filtered, flag s.press.freeze.filtered, flag s.hold,
        num (supplyNumber s.supply.state), num (s.zones.countP (fun r => r.state == .moving)),
        num s.limits.budget] := by
  rw [statusData, deviceCode_eq_deviceNumber, upper_eq_upperWord, lower_eq_lowerWord, supplyCode_eq_supplyNumber]
  rfl

/-- Every port and every device state takes a matching READ STATUS (R182). -/
theorem exec_readStatus_of_free {s : State} {f : Frame} {p : Port} (hfree : Free s p) (hf : Carries f p []) :
    exec (.readStatus f) s = .next (answers f 2 .ok (statusData s) s) := by
  have hpass : frameRefusal .readStatus f s.device = none :=
    hf.passes rfl rfl (fun h => absurd h (by decide))
  obtain ⟨rfl, -⟩ := hf
  exact (exec_readStatus f s).trans (runRequest_readout hfree hpass statusData rfl
    (fun ws t => tableWrite_of_other ws .ok t nofun nofun nofun))

/-- Without configured units there are no zone records (R1). -/
theorem zones_eq_nil_of_unconfigured {s : State} (hs : DeviceOk s) (h : s.device = .unconfigured) : s.zones = [] := by
  obtain ⟨hdevice, hzones, -⟩ := hs
  exact hzones.mpr (hdevice.mp h)

/-- Settles O11: the data hold the nine words in every device state, and without zone records none is MOVING. -/
theorem readStatusReportsNineWords : Obligations.ReadStatusReportsNineWords := by
  intro s f p hfree hf
  refine ⟨?_, fun hdevice hunconfigured => ?_⟩
  · rw [exec_readStatus_of_free hfree hf, statusData_eq]
  · rw [zones_eq_nil_of_unconfigured hdevice hunconfigured, List.countP_nil]

end Sys2Proof.Claims
end

section
/-! PROOF. The commands of the machine: what every request command is, that each command answers a next state, the clock,
and the state at power-on. -/

namespace Sys2Proof.Claims

open Sys2Proof.Machine Sys2Proof.Safety

/-! ### Request commands -/

/-- The meaning of a request of the table of R177, over its operand words: PORT RESET and DEVICE RESET, which are not judged
and executed like the others, have none here. -/
def requestBody (q : Req) (f : Frame) : List Word → State → State × Answer :=
  match q with
  | .identify => fun _ t => accept t (identifyData t)
  | .readStatus => fun _ t => accept t (statusData t)
  | .readZones => readZonesBody
  | .readJob => fun _ t => accept t (readJobData t)
  | .readCurve => readCurveBody
  | .setMask => setMaskBody f.port
  | .ackNotices => ackNoticesBody f.port
  | .portReset | .deviceReset => fun _ t => refuse t .ok []
  | .configure => configureBody
  | .takeJob => takeJobBody
  | .endJob => endJobBody
  | .setSweep => setSweepBody
  | .discardStage => discardStageBody
  | .defineCurve => defineCurveBody
  | .deleteCurve => deleteCurveBody
  | .setConsoleTrim => consoleTrimBody absoluteTrim
  | .adjustConsoleTrim => consoleTrimBody adjustedTrim
  | .clearTrims => clearTrimsBody
  | .setLoopHold => setLoopHoldBody
  | .disableZone => zoneRequest disableZoneBody
  | .enableZone => zoneRequest enableZoneBody
  | .releaseZone => zoneRequest releaseZoneBody
  | .setKeyCal => setKeyCalBody
  | .readEcho => zoneRequest readEchoBody
  | .holdKeys => holdBody true
  | .resumeKeys => holdBody false
  | .setLimits => setLimitsBody
  | .supplyRetry => supplyRetryBody
  | .setLoopParameters => setLoopParametersBody
  | .setTestPosting => setTestPostingBody
  | .testNotice => testNoticeBody
  | .beginStage => beginStageBody
  | .stageUnit => stageUnitBody
  | .stageData => stageDataBody
  | .endStage => endStageBody
  | .applyDeviations => applyDeviationsBody

/-- What is done with the frame of a request taken at a free port: DEVICE RESET resets the part where no check refuses it,
every other request is judged and executed (R174, R177, R178). -/
def requestTaken (q : Req) (f : Frame) (s : State) : State :=
  if q = .deviceReset then
    match frameRefusal .deviceReset f s.device with
    | some a => s.beginExecution f.port (reqCode .deviceReset) f.tag a none
    | none => s.toHeld.endReset
  else judged q f (requestBody q f) s

/-- Every request command but PORT RESET hands its frame to the port (R175, R176). -/
theorem exec_command {q : Req} (h : q ≠ .portReset) (f : Frame) (s : State) :
    exec (command q f) s = takeRequest f (requestTaken q f) s := by
  cases q
  case portReset => exact absurd rfl h
  all_goals rfl

/-- A request command other than the two resets runs its body. -/
theorem exec_command_run {q : Req} (hp : q ≠ .portReset) (hd : q ≠ .deviceReset) (f : Frame) (s : State) :
    exec (command q f) s = runRequest q f (requestBody q f) s := by
  cases q
  case portReset => exact absurd rfl hp
  case deviceReset => exact absurd rfl hd
  all_goals rfl

theorem exec_portReset (f : Frame) (s : State) : exec (.portReset f) s = execPortReset f s := by
  rfl

/-! ### Every command answers a next state -/

/-- A command that answers a next state whatever it does. -/
theorem takeRequest_answers (f : Frame) (take : State → State) (s : State) : ∃ t, takeRequest f take s = .next t := by
  unfold takeRequest
  split_ifs <;> exact ⟨_, rfl⟩

/-- Every request command answers a next state. -/
theorem exec_command_answers (q : Req) (f : Frame) (s : State) : ∃ t, exec (command q f) s = .next t := by
  by_cases h : q = .portReset
  · subst h
    change ∃ t, execPortReset f s = .next t
    unfold execPortReset
    split_ifs <;> exact ⟨_, rfl⟩
  · rw [exec_command h]
    exact takeRequest_answers f _ s

/-- A property of every command, proved for the request commands by their requests and for each event (SPEC, the request
table of R177). -/
theorem commandCases {P : Instr → Prop} (request : ∀ q f, P (command q f))
    (unknownRequest : ∀ code f, P (.unknownRequest code f)) (fetch : ∀ p n, P (.fetch p n))
    (unknownFrameType : ∀ p type n, P (.unknownFrameType p type n))
    (requestDiscardedBusy : ∀ p n, P (.requestDiscardedBusy p n)) (executionEnd : ∀ p, P (.executionEnd p))
    (lineTurn : ∀ u, P (.lineTurn u)) (grant : P .grant) (pollDue : ∀ u z, P (.pollDue u z))
    (statusSymbol : ∀ u code parity stop, P (.statusSymbol u code parity stop)) (noReply : ∀ u, P (.noReply u))
    (echoEnd : ∀ u, P (.echoEnd u)) (lineErrorLimit : ∀ u, P (.lineErrorLimit u)) (restEnd : ∀ u, P (.restEnd u))
    (sheetEdge : ∀ level, P (.sheetEdge level)) (pressLevelRawChange : ∀ w level, P (.pressLevelRawChange w level))
    (pressLevelFilterExpiry : ∀ w, P (.pressLevelFilterExpiry w))
    (supplyOkRawChange : ∀ level, P (.supplyOkRawChange level)) (supplyOkFilterExpiry : P .supplyOkFilterExpiry)
    (warmUpLimitExpiry : P .warmUpLimitExpiry) (standbyTimerExpiry : P .standbyTimerExpiry)
    (resetLineFall : P .resetLineFall) (resetLineRise : P .resetLineRise) (powerOn : P .powerOn)
    (startUpIntervalEnd : P .startUpIntervalEnd) (answerDelayEnd : P .answerDelayEnd)
    (requestFrameEnd : ∀ u, P (.requestFrameEnd u)) (statusSymbolStart : ∀ u, P (.statusSymbolStart u))
    (echoRisingEdge : ∀ u, P (.echoRisingEdge u)) : ∀ c, P c
  | .identify f => request .identify f | .readStatus f => request .readStatus f | .readZones f => request .readZones f
  | .readJob f => request .readJob f | .readCurve f => request .readCurve f | .setMask f => request .setMask f
  | .ackNotices f => request .ackNotices f | .portReset f => request .portReset f | .configure f => request .configure f
  | .deviceReset f => request .deviceReset f | .takeJob f => request .takeJob f | .endJob f => request .endJob f
  | .setSweep f => request .setSweep f | .discardStage f => request .discardStage f
  | .defineCurve f => request .defineCurve f | .deleteCurve f => request .deleteCurve f
  | .setConsoleTrim f => request .setConsoleTrim f | .adjustConsoleTrim f => request .adjustConsoleTrim f
  | .clearTrims f => request .clearTrims f | .setLoopHold f => request .setLoopHold f
  | .disableZone f => request .disableZone f | .enableZone f => request .enableZone f
  | .releaseZone f => request .releaseZone f | .setKeyCal f => request .setKeyCal f | .readEcho f => request .readEcho f
  | .holdKeys f => request .holdKeys f | .resumeKeys f => request .resumeKeys f | .setLimits f => request .setLimits f
  | .supplyRetry f => request .supplyRetry f | .setLoopParameters f => request .setLoopParameters f
  | .setTestPosting f => request .setTestPosting f | .testNotice f => request .testNotice f
  | .beginStage f => request .beginStage f | .stageUnit f => request .stageUnit f | .stageData f => request .stageData f
  | .endStage f => request .endStage f | .applyDeviations f => request .applyDeviations f
  | .unknownRequest code f => unknownRequest code f | .fetch p n => fetch p n
  | .unknownFrameType p type n => unknownFrameType p type n | .requestDiscardedBusy p n => requestDiscardedBusy p n
  | .executionEnd p => executionEnd p | .lineTurn u => lineTurn u | .grant => grant | .pollDue u z => pollDue u z
  | .statusSymbol u code parity stop => statusSymbol u code parity stop | .noReply u => noReply u
  | .echoEnd u => echoEnd u | .lineErrorLimit u => lineErrorLimit u | .restEnd u => restEnd u
  | .sheetEdge level => sheetEdge level | .pressLevelRawChange w level => pressLevelRawChange w level
  | .pressLevelFilterExpiry w => pressLevelFilterExpiry w | .supplyOkRawChange level => supplyOkRawChange level
  | .supplyOkFilterExpiry => supplyOkFilterExpiry | .warmUpLimitExpiry => warmUpLimitExpiry
  | .standbyTimerExpiry => standbyTimerExpiry | .resetLineFall => resetLineFall | .resetLineRise => resetLineRise
  | .powerOn => powerOn | .startUpIntervalEnd => startUpIntervalEnd | .answerDelayEnd => answerDelayEnd
  | .requestFrameEnd u => requestFrameEnd u | .statusSymbolStart u => statusSymbolStart u
  | .echoRisingEdge u => echoRisingEdge u

/-- Settles O4: a request command answers by the frame it is given, an event by the branches of its own definition, each of
which ends in a next state. -/
theorem everyCommandAnswersANextState : Obligations.EveryCommandAnswersANextState := by
  intro c s
  induction c using commandCases with
  | request q f => exact exec_command_answers q f s
  | unknownRequest code f =>
    simp only [exec, execUnknownRequest]
    split_ifs
    · exact ⟨_, rfl⟩
    · exact takeRequest_answers f _ s
  | _ =>
    simp only [exec, execFetch, execUnknownFrameType, execRequestDiscardedBusy, execExecutionEnd, execLineTurn, execGrant,
      execPollDue, execStatusSymbol, execNoReply, execEchoEnd, execLineErrorLimit, execRestEnd, execSheetEdge,
      execPressLevelRawChange, execPressLevelFilterExpiry, execSupplyOkRawChange, execSupplyOkFilterExpiry,
      execWarmUpLimitExpiry, execStandbyTimerExpiry, execResetLineFall, execResetLineRise, execPowerOn,
      execStartUpIntervalEnd, execAnswerDelayEnd, execRequestFrameEnd, execStatusSymbolStart, execEchoRisingEdge]
    repeat' split
    all_goals exact ⟨_, rfl⟩

/-! ### Steps -/

/-- Settles O1: a step with a command at the front of the queue is by definition that command's execution. -/
theorem frontCommandIsExecuted : Obligations.FrontCommandIsExecuted := by
  intro c s rest
  rfl

theorem step_of_empty {s : State} (h : s.pending = []) : step s = .next s.tick := by
  rw [step, h]

/-- A step executes the command at the front of the queue, or lets a microsecond pass. -/
theorem step_cases {s t : State} (h : step s = .next t) :
    (s.pending = [] ∧ t = s.tick) ∨ ∃ c rest, s.pending = c :: rest ∧ exec c { s with pending := rest } = .next t := by
  cases hp : s.pending with
  | nil =>
    rw [step_of_empty hp] at h
    exact .inl ⟨rfl, (Host.Outcome.next.inj h).symm⟩
  | cons c rest =>
    refine .inr ⟨c, rest, rfl, ?_⟩
    rwa [step, hp] at h

/-- What every command keeps, and the passing of a microsecond, every step keeps, wherever the queue of commands has no part
in it. -/
theorem step_keeps {P : State → Prop} (hqueue : ∀ s l, P s → P { s with pending := l }) (htick : ∀ s, P s → P s.tick)
    (hexec : ∀ c s t, P s → exec c s = .next t → P t) {s t : State} (hs : P s) (h : step s = .next t) : P t := by
  obtain ⟨-, rfl⟩ | ⟨c, rest, -, h⟩ := step_cases h
  · exact htick s hs
  · exact hexec c _ t (hqueue s rest hs) h

/-- The part time counts microseconds modulo 2^32 milliseconds (R7). -/
theorem instant_tick_us (t : Instant) :
    t.tick.ms.toNat * 1000 + t.tick.us.val = (t.ms.toNat * 1000 + t.us.val + 1) % (2 ^ 32 * 1000) := by
  have hms := t.ms.isLt
  have hus := t.us.isLt
  unfold Instant.tick
  split
  · next h =>
    have hlast : t.us.val = 999 := congrArg Fin.val h
    have hone : (1 : BitVec 32).toNat = 1 := rfl
    simp only [BitVec.toNat_add, hone, hlast, Fin.val_zero]
    omega
  · next h =>
    have hlt : t.us.val ≠ 999 := fun e => h (Fin.ext e)
    have hnext : (t.us + 1).val = t.us.val + 1 := by
      rw [Fin.val_add]
      exact Nat.mod_eq_of_lt (by simp; omega)
    simp only [hnext]
    omega

/-- Settles O2: the clocks after a microsecond, phase by phase. -/
theorem emptyQueuePassesOneMicrosecond : Obligations.EmptyQueuePassesOneMicrosecond := by
  intro s hs
  refine ⟨s.tick, step_of_empty hs, ?_, ?_⟩
  · unfold State.tick
    split <;> rfl
  · have hus := instant_tick_us s.clock.now
    cases hp : s.press.phase <;> simp [State.tick, hp, hus]

/-! ### The state at power-on -/

/-- Every entry of a table filled with its default is that default. -/
theorem at1_replicate {α : Type} (n i : Nat) (d : α) : at1 (Vector.replicate n d) i d = d := by
  unfold at1
  split
  · rfl
  · rw [vector_getD]
    by_cases h : i - 1 < n <;> simp [h]

theorem calAt_powerOn (u z : Nat) :
    calAt (Vector.replicate 8 (Vector.replicate 36 CalEntry.powerOn)) u z = ⟨500, 410⟩ := by
  rw [calAt, at1_replicate, at1_replicate]
  rfl

theorem getD_replicate_none {α : Type} (n k : Nat) : (Vector.replicate n (none : Option α)).getD k none = none := by
  rw [vector_getD]
  by_cases h : k < n <;> simp [h]

/-- Every port at power-on is idle, with empty set and mask, and its attention line deasserted (R181, R185). -/
theorem port_afterReset (p : Port) : (State.reset).port p = PortCtl.afterReset := by
  cases p <;> rfl

/-- Settles O3: the reset tables of the chapters, field by field. -/
theorem resetStateHoldsThePowerOnValues : Obligations.ResetStateHoldsThePowerOnValues := by
  refine ⟨rfl, rfl, rfl, rfl, rfl, rfl, rfl, fun u z => ⟨calAt_powerOn u z, calAt_powerOn u z⟩,
    fun k => ⟨getD_replicate_none 16 k, getD_replicate_none 16 k⟩, rfl, rfl, rfl, rfl, rfl, fun u => at1_replicate 8 u [],
    rfl, rfl, rfl, fun u => at1_replicate 8 u Line.afterReset, rfl, rfl, rfl, rfl, rfl, rfl, rfl, rfl, rfl, fun p => ?_⟩
  rw [port_afterReset]
  exact ⟨rfl, rfl, rfl, rfl, rfl, rfl⟩

/-! ### The laws at power-on -/

theorem calOk_powerOn : CalOk CalEntry.powerOn := by
  decide

/-- The entries of a filled table are its filler. -/
theorem forall_mem_replicate {α : Type} {P : α → Prop} {n : Nat} {x : α} (h : P x) :
    ∀ y ∈ (Vector.replicate n x).toList, P y := by
  intro y hy
  rw [Vector.toList_replicate] at hy
  exact List.eq_of_mem_replicate hy ▸ h

theorem calibration_powerOn :
    ∀ row ∈ (Vector.replicate 8 (Vector.replicate 36 CalEntry.powerOn)).toList, ∀ e ∈ row.toList, CalOk e :=
  forall_mem_replicate (forall_mem_replicate calOk_powerOn)

theorem curves_powerOn : ∀ o ∈ (Vector.replicate 16 (none : Option Curve)).toList, ∀ c ∈ o, CurveOk c :=
  forall_mem_replicate (fun _ hc => nomatch hc)

/-- There are no zone records, no active job and no staged slot at power-on. -/
theorem forall_zones_reset (P : ZoneRec → Prop) : ∀ r ∈ State.reset.zones, P r :=
  fun _ h => (List.not_mem_nil h).elim
theorem forall_job_reset (P : ActiveJob → Prop) : ∀ j ∈ State.reset.job, P j :=
  fun j h => (Option.not_mem_none j h).elim
theorem forall_stage_reset (P : Stage → Prop) : ∀ c ∈ State.reset.slot.content, P c :=
  fun c h => (Option.not_mem_none c h).elim

theorem queuesOk_reset : QueuesOk State.reset := by
  refine ⟨forall_zones_reset _, fun u _ => ?_⟩
  have hu : State.reset.queue u = [] := at1_replicate 8 u []
  rw [hu]
  exact ⟨List.nodup_nil, fun _ hz => (List.not_mem_nil hz).elim⟩

theorem limitsOk_reset : LimitsOk State.reset := by
  decide

theorem schedulerOk_reset : SchedulerOk State.reset :=
  ⟨⟨by decide, rfl⟩, forall_zones_reset _, queuesOk_reset, ⟨by decide, forall_zones_reset _⟩,
    fun _ => forall_zones_reset _, fun _ => rfl, limitsOk_reset⟩

theorem keptOk_reset : KeptOk State.reset :=
  ⟨rfl, rfl, List.nodup_nil, fun _ he => (List.not_mem_nil he).elim⟩

theorem lineOk_afterReset : LineOk Line.afterReset :=
  ⟨⟨fun _ => rfl, fun _ => rfl⟩, nofun⟩

theorem deviceOk_reset : DeviceOk State.reset := by
  decide

theorem timersOk_reset : TimersOk State.reset := by
  decide

/-- Settles O59: without zones and jobs, with both tables at their power-on entries and every line FREE. -/
theorem resetStateSatisfiesTheLaws : Obligations.ResetStateSatisfiesTheLaws :=
  ⟨schedulerOk_reset, ⟨curves_powerOn, curves_powerOn, nofun⟩, ⟨calibration_powerOn, calibration_powerOn, nofun⟩,
    limitsOk_reset, forall_zones_reset _, forall_job_reset _, ⟨forall_stage_reset _, nofun⟩, forall_job_reset _,
    forall_stage_reset _, forall_job_reset _, keptOk_reset, deviceOk_reset, forall_zones_reset _,
    ⟨nofun, forall_zones_reset _⟩, forall_job_reset _, forall_mem_replicate lineOk_afterReset, timersOk_reset⟩

end Sys2Proof.Claims
end

section
/-! PROOF. Frames at the ports: frames that are not taken or dropped (R172, R175, R176), the header word and the frame checks
of a request (R175, R177), FETCH (R179). -/

namespace Sys2Proof.Claims

open Sys2Proof.Machine Sys2Proof.Safety

/-! ### Frames that are not taken -/

/-- The request codes of the machine and of the statements are the same. -/
theorem requestCodes_subset : ∀ n ∈ requestCodes, n ∈ knownCodes := by
  decide

theorem requestCodes_contains_of_unknown {code : BitVec 8} (h : code.toNat ∉ knownCodes) :
    requestCodes.contains code.toNat = false := by
  rw [Bool.eq_false_iff]
  intro hc
  exact h (requestCodes_subset _ (by simpa using hc))

/-- A frame of an unknown request is taken like that of a request of the table (R177 step 1). -/
theorem exec_unknownRequest {code : BitVec 8} (h : code.toNat ∉ knownCodes) (f : Frame) (s : State) :
    exec (.unknownRequest code f) s =
      takeRequest f (fun t => t.beginExecution f.port code f.tag ⟨.unknownRequest, []⟩ none) s := by
  change execUnknownRequest code f s = _
  rw [execUnknownRequest, requestCodes_contains_of_unknown h]
  rfl

theorem exec_fetch {n : Nat} (h : 1 ≤ n) (p : Port) (s : State) :
    exec (.fetch p n) s =
      if s.isRunning then .next (s.modPort p (fun c => { c with out := c.fetchWords n, dropped := false }))
      else .next (s.shiftOnes p n) := by
  change execFetch p n s = _
  rw [execFetch, if_neg (by omega)]
  cases s.isRunning <;> rfl

theorem exec_unknownFrameType {type : BitVec 4} {n : Nat} (h5 : type ≠ 5) (h9 : type ≠ 9) (h : 1 ≤ n) (p : Port) (s : State) :
    exec (.unknownFrameType p type n) s =
      if s.isRunning then .next ((s.shiftZero p).setDropped p) else .next (s.shiftOnes p n) := by
  have hn : n ≠ 0 := by omega
  change execUnknownFrameType p type n s = _
  rw [execUnknownFrameType, if_neg (by rintro (h | h | h) <;> contradiction)]
  cases s.isRunning <;> rfl

theorem exec_requestDiscardedBusy {n : Nat} (h : 1 ≤ n) (p : Port) (s : State) :
    exec (.requestDiscardedBusy p n) s =
      if s.isRunning then (if (s.port p).isBusy then .next ((s.shiftZero p).setDropped p) else .next s)
      else .next (s.shiftOnes p n) := by
  change execRequestDiscardedBusy p n s = _
  rw [execRequestDiscardedBusy, if_neg (by omega)]
  cases s.isRunning <;> rfl

/-- A frame dropped shifts out the word 0 and sets the dropped flag (R175, R176). -/
theorem setDropped_shiftZero (s : State) (p : Port) :
    (s.shiftZero p).setDropped p = s.modPort p (fun c => { c with dropped := true, out := [0] }) :=
  State.modPort_modPort s p _ _

theorem clockedWords_eq (f : Frame) : frameClocked f = clockedWords f := by
  unfold frameClocked clockedWords
  cases f.declared <;> rfl

/-- Settles O6: a REQUEST frame by the port's command state, a frame of another type in every one. -/
theorem framesAreDroppedWhileBusy : Obligations.FramesAreDroppedWhileBusy := by
  refine ⟨fun s p hrun hbusy => ?_, fun s p type n hrun h5 h9 hn => ?_⟩
  · have hb : (s.port p).isBusy = true := (PortCtl.isBusy_iff _).mpr hbusy
    refine ⟨fun q f hq hp => ?_, fun code f hcode hp => ?_, fun n hn => ?_⟩
    · subst hp
      rw [exec_command hq, takeRequest_of_busy f _ hrun hb, setDropped_shiftZero]
    · subst hp
      rw [exec_unknownRequest hcode, takeRequest_of_busy f _ hrun hb, setDropped_shiftZero]
    · rw [exec_requestDiscardedBusy hn, (s.isRunning_iff).mpr hrun, hb, setDropped_shiftZero]
      rfl
  · rw [exec_unknownFrameType h5 h9 hn, (s.isRunning_iff).mpr hrun, setDropped_shiftZero]
    rfl

/-- Settles O7: outside RUNNING every frame command shifts out ones and does nothing else. -/
theorem framesAreNotTakenOutsideRunning : Obligations.FramesAreNotTakenOutsideRunning := by
  intro s p hphase
  have hrun : s.isRunning = false := by
    rw [Bool.eq_false_iff]
    exact fun h => hphase ((s.isRunning_iff).mp h)
  refine ⟨fun q f hp => ?_, fun code f hcode hp => ?_, fun n hn => ⟨?_, ?_, fun type h5 h9 => ?_⟩⟩
  · subst hp
    by_cases hq : q = .portReset
    · subst hq
      change execPortReset f s = _
      rw [execPortReset, hrun, clockedWords_eq]
      rfl
    · rw [exec_command hq, takeRequest_of_not_running f _ hphase, clockedWords_eq]
      rfl
  · subst hp
    rw [exec_unknownRequest hcode, takeRequest_of_not_running f _ hphase, clockedWords_eq]
    rfl
  · rw [exec_fetch hn, hrun]
    rfl
  · rw [exec_requestDiscardedBusy hn, hrun]
    rfl
  · rw [exec_unknownFrameType h5 h9 hn, hrun]
    rfl

/-! ### The header word -/

/-- The number two fields side by side make. -/
theorem toNat_append_eq {m n : Nat} (x : BitVec m) (y : BitVec n) : (x ++ y).toNat = x.toNat * 2 ^ n + y.toNat := by
  rw [BitVec.toNat_append, ← Nat.shiftLeft_add_eq_or_of_lt y.isLt, Nat.shiftLeft_eq]

/-- The three fields of a frame's header word (R175). -/
theorem header_fields (type tag : BitVec 4) (code : BitVec 8) :
    (type ++ tag ++ code : Word).extractLsb' 12 4 = type ∧ (type ++ tag ++ code : Word).extractLsb' 8 4 = tag ∧
      (type ++ tag ++ code : Word).extractLsb' 0 8 = code := by
  have htype := type.isLt
  have htag := tag.isLt
  have hcode := code.isLt
  refine ⟨BitVec.eq_of_toNat_eq ?_, BitVec.eq_of_toNat_eq ?_, BitVec.eq_of_toNat_eq ?_⟩
  all_goals
    simp only [BitVec.extractLsb'_toNat, toNat_append_eq, Nat.shiftRight_eq_div_pow]
    omega

/-- The code of a row and of PORT RESET picks its request, and no other code does (R177 step 1). -/
theorem requestCommand_of_row (f : Frame) :
    ∀ row ∈ requestTable, requestCommand (BitVec.ofNat 8 row.code) f = command row.request f := by
  simp only [requestTable, List.cons_append, List.nil_append]
  repeat refine List.forall_mem_cons.mpr ⟨rfl, ?_⟩
  exact List.forall_mem_nil _

theorem requestCommand_of_unknown {code : BitVec 8} (h : code.toNat ∉ knownCodes) (f : Frame) :
    requestCommand code f = .unknownRequest code f := by
  have hcodes : ∀ n ∈ requestCommands.map Prod.fst, n ∈ knownCodes := by decide
  have hfind : requestCommands.find? (fun q => q.1 == code.toNat) = none := by
    rw [List.find?_eq_none]
    intro q hq hc
    exact h (beq_iff_eq.mp hc ▸ hcodes _ (List.mem_map_of_mem hq))
  rw [requestCommand, hfind]

/-- The command of a frame with a header word, by its type (R175). -/
theorem frameCommand_of_header (p : Port) (type tag : BitVec 4) (code : BitVec 8) (ws : List Word) {tail : List Bool}
    (h : tail.length < 16) :
    frameCommand p (((type ++ tag ++ code : Word) :: ws).flatMap fieldBits ++ tail) =
      if type = 5 then some (requestCommand code ⟨p, tag, ws.head?, ws.tail, tail.length != 0⟩)
      else if type = 9 then some (.fetch p (ws.length + 1))
      else some (.unknownFrameType p type (ws.length + 1)) := by
  obtain ⟨htype, htag, hcode⟩ := header_fields type tag code
  rw [frameCommand, gatherWords_words _ _ h]
  simp only [wordsCommand, htype, htag, hcode]

theorem frameCommand_of_short (p : Port) {bits : List Bool} (h : bits.length < 16) : frameCommand p bits = none := by
  rw [frameCommand, gatherWords_short bits 0 0 (by omega)]
  rfl

/-! ### The frame checks of a request -/

/-- A row of the table says of its request what the machine's own table says (R177). -/
theorem row_reads : ∀ row ∈ requestTable,
    reqCode row.request = BitVec.ofNat 8 row.code ∧ row.request ≠ .portReset ∧
      (∀ ws, reqOperands row.request ws = row.operands ws) ∧ (∀ p, reqAllowed row.request p = true ↔ p ∈ row.ports) ∧
      reqNeedsConfigured row.request = row.configured := by
  simp only [requestTable, List.cons_append, List.nil_append]
  repeat refine List.forall_mem_cons.mpr ⟨⟨rfl, nofun, fun _ => rfl, fun p => by cases p <;> decide, rfl⟩, ?_⟩
  exact List.forall_mem_nil _

theorem row_of_request {q : Req} (h : q ≠ .portReset) : ∃ row ∈ requestTable, row.request = q := by
  cases q
  case portReset => exact absurd rfl h
  all_goals decide

theorem receivedWords_eq (f : Frame) : frameReceived f = receivedWords f := by
  unfold frameReceived receivedWords
  cases f.declared <;> rfl

theorem requiredWord_eq {n : Option Nat} (h : n.getD 0 < 65536) : requiredWord n = num (n.getD 0) := by
  cases n with
  | none => rfl
  | some k => exact if_pos h

/-- A request refused by steps 2 to 4 of R177 leaves its answer and changes nothing else, DEVICE RESET included. -/
theorem exec_command_of_refusal {q : Req} {f : Frame} {s : State} {o : ResultCode} {data : List Word}
    (hq : q ≠ .portReset) (hfree : Free s f.port) (h : frameRefusal q f s.device = some ⟨o, data⟩) :
    exec (command q f) s = .next (answers f (reqCode q) o data s) := by
  have hidle := hfree.not_busy
  obtain ⟨hrun, -⟩ := hfree
  have h' : frameRefusal q f (s.shiftZero f.port).device = some ⟨o, data⟩ := h
  have htaken : requestTaken q f (s.shiftZero f.port) =
      (s.shiftZero f.port).beginExecution f.port (reqCode q) f.tag ⟨o, data⟩ none := by
    by_cases hd : q = .deviceReset
    · subst hd
      rw [requestTaken, if_pos rfl, h']
    · rw [requestTaken, if_neg hd, judged_of_refusal _ h']
  rw [exec_command hq, takeRequest_of_free f _ hrun hidle, htaken, beginExecution_shiftZero, answers]

/-- The refusals of steps 2 to 4 of R177 in the words of a row. -/
theorem frameRefusal_of_row {row : RequestRow} (hrow : row ∈ requestTable) (f : Frame) (d : DeviceState) :
    (¬ LengthMatches row f → (row.operands (f.words.take 128)).getD 0 < 65536 →
      frameRefusal row.request f d =
        some ⟨.frameError, [num (receivedWords f), num ((row.operands (f.words.take 128)).getD 0)]⟩) ∧
    (LengthMatches row f → f.port ∉ row.ports → frameRefusal row.request f d = some ⟨.wrongPort, []⟩) ∧
    (LengthMatches row f → f.port ∈ row.ports → row.configured = true → d = .unconfigured →
      frameRefusal row.request f d = some ⟨.notConfigured, []⟩) := by
  obtain ⟨-, -, hoperands, hports, hconfigured⟩ := row_reads row hrow
  have hmatches : frameMatches row.request f = true ↔ LengthMatches row f := by
    rw [frameMatches_iff, hoperands]
    exact Iff.rfl
  refine ⟨fun hlen hreq => ?_, fun hlen hport => ?_, fun hlen hport hconf hd => ?_⟩
  · have hno : frameMatches row.request f = false := Bool.eq_false_iff.mpr (fun h => hlen (hmatches.mp h))
    have hwords : reqOperands row.request (frameWords f) = row.operands (f.words.take 128) := hoperands _
    rw [frameRefusal, hno, receivedWords_eq, hwords, requiredWord_eq hreq]
    rfl
  · have hno : reqAllowed row.request f.port = false := Bool.eq_false_iff.mpr (fun h => hport ((hports _).mp h))
    rw [frameRefusal, hmatches.mpr hlen, hno]
    rfl
  · rw [frameRefusal, hmatches.mpr hlen, (hports _).mpr hport, hconfigured, hconf, hd]
    rfl

/-- Settles O5: the header word picks the command, and a row's request is refused by the first check that fails. -/
theorem requestFramesAreRefusedInOrder : Obligations.RequestFramesAreRefusedInOrder := by
  refine ⟨fun f code => ⟨rfl, requestCommand_of_row f, fun h => requestCommand_of_unknown h f⟩,
    fun p bits h => frameCommand_of_short p h, ?_, fun q h => row_of_request h, fun row hrow f s hfree => ?_,
    fun code f s hfree hcode => ?_⟩
  · intro p type tag code ws tail h header bits
    have hcommand : frameCommand p bits = _ := frameCommand_of_header p type tag code ws h
    refine ⟨fun h5 => ?_, fun h9 => ?_, fun h5 h9 => ?_⟩
    · rw [hcommand, if_pos h5]
    · rw [hcommand, if_neg (by rw [h9]; decide), if_pos h9]
    · rw [hcommand, if_neg h5, if_neg h9]
  · obtain ⟨hcode, hreset, -⟩ := row_reads row hrow
    obtain ⟨hlength, hport, hconfigured⟩ := frameRefusal_of_row hrow f s.device
    rw [← hcode]
    exact ⟨fun h hreq => exec_command_of_refusal hreset hfree (hlength h hreq),
      fun h hp => exec_command_of_refusal hreset hfree (hport h hp),
      fun h hp hc hd => exec_command_of_refusal hreset hfree (hconfigured h hp hc hd)⟩
  · have hidle := hfree.not_busy
    obtain ⟨hrun, -⟩ := hfree
    rw [exec_unknownRequest hcode, takeRequest_of_free f _ hrun hidle, beginExecution_shiftZero, answers]

end Sys2Proof.Claims
end

section
/-! PROOF. FETCH (R179), the end of an execution and PORT RESET (R176, R180; logs 6, 7, 31). -/

namespace Sys2Proof.Claims

open Sys2Proof.Machine Sys2Proof.Safety

/-! ### The fetch reply -/

/-- Reading a list place by place, with a filler beyond its end, takes it padded. -/
theorem map_range_getD {α : Type} (l : List α) (n : Nat) (d : α) :
    (List.range n).map (fun i => l.getD i d) = (l ++ List.replicate n d).take n := by
  apply List.ext_getElem
  · simp
  · intro i hi _
    have hn : i < n := by simpa using hi
    rcases lt_or_ge i l.length with h | h
    · simp [h, List.getElem_append_left h]
    · have hsub : i - l.length < n := by omega
      simp [h, List.getElem_append_right h]

theorem fetchWords_eq (c : PortCtl) (n : Nat) :
    c.fetchWords n = (0 :: c.fetchReply ++ List.replicate n 0).take n :=
  map_range_getD _ _ _

/-- The header word of the reply: its fields side by side make the number the machine sends (R179). -/
theorem uword_header (state : BitVec 2) (c : PortCtl) (tag : BitVec 4) (code : BitVec 8) :
    uword (state.toNat * 16384 + (if c.dropped then 8192 else 0) + (if c.test then 4096 else 0) + tag.toNat * 256
      + code.toNat) = replyHeader state c tag code := by
  have hstate := state.isLt
  have htag := tag.isLt
  have hcode := code.isLt
  apply BitVec.eq_of_toNat_eq
  simp only [uword, replyHeader, BitVec.toNat_ofNat, toNat_append_eq, BitVec.toNat_ofBool]
  cases c.dropped <;> cases c.test <;> simp <;> omega

theorem uword_kinds (c : PortCtl) : uword (c.mask.toNat * 256 + c.notices.toNat) = c.mask ++ c.notices := by
  have hmask := c.mask.isLt
  have hnotices := c.notices.isLt
  apply BitVec.eq_of_toNat_eq
  simp only [uword, BitVec.toNat_ofNat, toNat_append_eq]
  omega

theorem resultCode_eq_outcomeNumber (o : ResultCode) : resultCode o = outcomeNumber o := by
  cases o <;> rfl

/-- The reply in the words of its layout, by the port's command state (R179). -/
theorem fetchReply_of_idle {c : PortCtl} (h : c.cmd = .idle) :
    c.fetchReply = [replyHeader 0 c 0 0, c.mask ++ c.notices, 255, 0] := by
  simp only [PortCtl.fetchReply, h, cmdCode, cmdRequest, cmdResult, uword_kinds, ← uword_header]
  rfl

theorem fetchReply_of_busy {c : PortCtl} {r : ResultRecord} {b : Bool} (h : c.cmd = .busy r b) :
    c.fetchReply = [replyHeader 1 c r.tag r.code, c.mask ++ c.notices, 255, 0] := by
  simp only [PortCtl.fetchReply, h, cmdCode, cmdRequest, cmdResult, uword_kinds, ← uword_header]
  rfl

theorem fetchReply_of_done {c : PortCtl} {r : ResultRecord} (h : c.cmd = .done r) :
    c.fetchReply =
      [replyHeader 2 c r.tag r.code, c.mask ++ c.notices, num (outcomeNumber r.outcome), num r.data.length] ++ r.data := by
  simp only [PortCtl.fetchReply, h, cmdCode, cmdRequest, cmdResult, uword_kinds, ← uword_header,
    resultCode_eq_outcomeNumber]
  rfl

/-- A FETCH in RUNNING shifts out the port's reply and clears the dropped flag. -/
theorem exec_fetch_of_reply {s : State} {p : Port} {n : Nat} {reply : List Word} (hrun : s.press.phase = .running)
    (hn : 1 ≤ n) (h : (s.port p).fetchReply = reply) :
    exec (.fetch p n) s =
      .next (s.modPort p
        (fun c => { c with dropped := false, out := (0 :: reply ++ List.replicate n 0).take n })) := by
  rw [exec_fetch hn, (s.isRunning_iff).mpr hrun, if_pos rfl]
  refine congrArg _ (State.modPort_congr ?_)
  rw [fetchWords_eq, h]

/-- Settles O8: the reply of each command state. -/
theorem fetchShiftsOutTheReply : Obligations.FetchShiftsOutTheReply := by
  intro s p n hrun hn shifted kinds
  exact ⟨fun h => exec_fetch_of_reply hrun hn (fetchReply_of_idle h),
    fun r b h => exec_fetch_of_reply hrun hn (fetchReply_of_busy h),
    fun r h => exec_fetch_of_reply hrun hn (fetchReply_of_done h)⟩

/-! ### The end of an execution -/

theorem exec_executionEnd (p : Port) (s : State) :
    exec (.executionEnd p) s = .next ((s.commit p).modPort p PortCtl.finish) := by
  rfl

/-- The port at the end of its execution, and one that executes nothing (R176, R180). -/
theorem finish_of_busy {c : PortCtl} {r : ResultRecord} {b : Bool} (h : c.cmd = .busy r b) :
    c.finish =
      if b then { c with cmd := .idle, dropped := false, notices := 0, test := false } else { c with cmd := .done r } := by
  unfold PortCtl.finish
  rw [h]
  cases b <;> rfl

theorem finish_of_not_busy {c : PortCtl} (h : ∀ r b, c.cmd ≠ .busy r b) : c.finish = c := by
  unfold PortCtl.finish
  split
  · next e => exact absurd e (h _ _)
  · next e => exact absurd e (h _ _)
  · rfl

theorem isBusy_of_cmd {c : PortCtl} {r : ResultRecord} {b : Bool} (h : c.cmd = .busy r b) : c.isBusy = true :=
  (PortCtl.isBusy_iff c).mpr ⟨r, b, h⟩

theorem not_isBusy_of_cmd {c : PortCtl} (h : ∀ r b, c.cmd ≠ .busy r b) : c.isBusy = false := by
  rw [Bool.eq_false_iff]
  intro hb
  obtain ⟨r, b, e⟩ := (PortCtl.isBusy_iff c).mp hb
  exact h r b e

/-- The end of an execution at a BUSY port: its account is finished and its command state taken on. -/
theorem exec_executionEnd_of_busy {s : State} {p : Port} (h : (s.port p).isBusy = true) :
    exec (.executionEnd p) s = .next ({ s with kept := s.kept.finish p }.modPort p PortCtl.finish) := by
  rw [exec_executionEnd, State.commit_of_busy h]

theorem curves_setIfInBounds_getD (v : Vector (Option Curve) 16) {i : Nat} (d : Option Curve) (h : i < 16) :
    (v.setIfInBounds i d).getD i none = d := by
  simp [vector_getD, h]

/-- Of two writes of one curve slot that are under way the later one stays, in whatever order the executions end (R29). -/
theorem kept_latest_curve {k : Kept} {p q : Port} {i : Nat} {c d : Option Curve}
    {before mid after : List (Port × TableWrite)} (hsplit : k.underWay = before ++ (q, .curve i c) :: mid ++ (p,
        .curve i d) :: after)
    (hnodup : (k.underWay.map Prod.fst).Nodup) (hi : i < 16) :
    p ≠ q ∧ ((k.finish p).finish q).curves.getD i none = d := by
  have hbefore : ∀ e ∈ before ++ (q, .curve i c) :: mid, e.1 ≠ p := by
    intro e he hp
    rw [hsplit, List.map_append, List.nodup_append] at hnodup
    exact hnodup.2.2 e.1 (List.mem_map_of_mem he) p (by simp) hp
  have hpq : p ≠ q := fun h => hbefore (q, .curve i c) (by simp) h.symm
  have hfinish := Kept.finish_of_split hsplit hbefore
  have hnone : ∀ e ∈ (k.finish p).underWay, e.1 ≠ q := by
    have hq : ∀ e ∈ before ++ mid ++ (p, .curve i d) :: after, e.1 ≠ q := by
      have hperm : k.underWay.Perm ((q, .curve i c) :: (before ++ mid ++ (p, .curve i d) :: after)) := by
        rw [hsplit, List.append_assoc, List.append_assoc, List.cons_append]
        exact List.perm_middle
      have hnodup' := (hperm.map Prod.fst).nodup_iff.mp hnodup
      rw [List.map_cons, List.nodup_cons] at hnodup'
      intro e he h
      exact hnodup'.1 (List.mem_map.mpr ⟨e, he, h⟩)
    intro e he
    have hsame : (TableWrite.curve i c).sameEntry (.curve i d) = true := beq_self_eq_true i
    rw [hfinish] at he
    simp only [List.filter_append, List.filter_cons, hsame, Bool.not_true, Bool.false_eq_true, if_false] at he
    refine hq e ?_
    simp only [List.mem_append, List.mem_filter, List.mem_cons] at he ⊢
    tauto
  refine ⟨hpq, ?_⟩
  rw [Kept.finish_of_none hnone, hfinish]
  exact curves_setIfInBounds_getD _ d hi

/-- PORT RESET at once, or at the end of the execution under way (R180). -/
theorem exec_portReset_of_running {s : State} {f : Frame} (h : s.press.phase = .running) :
    exec (.portReset f) s = .next ((s.shiftZero f.port).modPort f.port PortCtl.takeReset) := by
  rw [exec_portReset, execPortReset, (s.isRunning_iff).mpr h]
  rfl

/-- Settles O9: what the end of an execution does to the port and to the account of the kept tables, and what PORT RESET
does. -/
theorem executionsEndAndPortResetActs : Obligations.ExecutionsEndAndPortResetActs := by
  intro s p
  refine ⟨fun r b h => ⟨s.kept.finish p, ?_, fun hnone => Kept.finish_of_none hnone, fun w before after hsplit hbefore => ?_⟩,
    fun h => ?_, fun q i c d before mid after t v hsplit hnodup hp hq hi ht hv => ?_, fun f hf hrun => ⟨fun h => ?_,
        fun r b h => ?_⟩⟩
  · rw [exec_executionEnd_of_busy (isBusy_of_cmd h)]
    exact congrArg _ (State.modPort_congr (finish_of_busy h))
  · rw [Kept.finish_of_split hsplit hbefore]
    refine ⟨rfl, fun i c hw => ?_, fun u z e hw hu hu' hz hz' => ?_⟩
    · subst hw
      exact ⟨rfl, rfl⟩
    · subst hw
      refine ⟨rfl, fun v y => ?_⟩
      exact (calAt_putCal _ _ _ _ _ _).trans (by simp [hu, hu', hz, hz'])
  · rw [exec_executionEnd, State.commit_of_free (not_isBusy_of_cmd h), State.modPort_self (finish_of_not_busy h)]
  · obtain ⟨hpq, hcurve⟩ := kept_latest_curve hsplit hnodup hi
    rw [exec_executionEnd_of_busy hp] at ht
    have hbusy : (t.port q).isBusy = true := by
      rw [← Host.Outcome.next.inj ht, State.port_modPort, if_neg hpq.symm]
      exact hq
    rw [exec_executionEnd_of_busy hbusy] at hv
    rw [← Host.Outcome.next.inj hv, ← Host.Outcome.next.inj ht]
    exact hcurve
  · subst hf
    rw [exec_portReset_of_running hrun, State.shiftZero, State.modPort_modPort]
    refine congrArg _ (State.modPort_congr ?_)
    unfold PortCtl.takeReset
    split
    · next e => exact absurd e (h _ _)
    · rfl
  · subst hf
    rw [exec_portReset_of_running hrun, State.shiftZero, State.modPort_modPort]
    refine congrArg _ (State.modPort_congr ?_)
    simp only [PortCtl.takeReset, h]

end Sys2Proof.Claims
end

section
/-! PROOF. The word a port shifts out has no part in what a request does (R175), so a request taken at a free port has the
effect and the answer of its body on the state as it stands. -/

namespace Sys2Proof.Claims

open Sys2Proof.Machine Sys2Proof.Safety

/-! ### Reading a state whose port has shifted out the word 0 -/

section
variable (s : State) (p : Port)

theorem shiftZero_zone? (u z : Nat) : (s.shiftZero p).zone? u z = s.zone? u z := rfl
theorem shiftZero_zones : (s.shiftZero p).zones = s.zones := rfl
theorem shiftZero_within (r : ZoneRec) : (s.shiftZero p).within r = s.within r := rfl
theorem shiftZero_noneUnknown : (s.shiftZero p).noneUnknown = s.noneUnknown := rfl
theorem shiftZero_standbyCondition : (s.shiftZero p).standbyCondition = s.standbyCondition := rfl
theorem shiftZero_press : (s.shiftZero p).press = s.press := rfl
theorem shiftZero_supply : (s.shiftZero p).supply = s.supply := rfl
theorem shiftZero_limits : (s.shiftZero p).limits = s.limits := rfl
theorem shiftZero_preset : (s.shiftZero p).preset = s.preset := rfl
theorem shiftZero_clock : (s.shiftZero p).clock = s.clock := rfl
theorem shiftZero_queue (u : Nat) : (s.shiftZero p).queue u = s.queue u := rfl
theorem shiftZero_job : (s.shiftZero p).job = s.job := rfl
theorem shiftZero_slot : (s.shiftZero p).slot = s.slot := rfl

/-! ### The operations of the scheduler commute with the word shifted out -/

theorem shiftZero_post (k : Notice) : (s.shiftZero p).post k = (s.post k).shiftZero p := by
  cases k <;> cases p <;> rfl

theorem shiftZero_modZone (u z : Nat) (f : ZoneRec → ZoneRec) :
    (s.shiftZero p).modZone u z f = (s.modZone u z f).shiftZero p := rfl

theorem shiftZero_dequeue (u z : Nat) : (s.shiftZero p).dequeue u z = (s.dequeue u z).shiftZero p := rfl

/-- A choice commutes with the word shifted out where both of its outcomes do. -/
theorem shiftZero_ite {p : Port} {c c' : Prop} [Decidable c] [Decidable c'] {a b a' b' : State} (hc : c' = c)
    (ha : a' = a.shiftZero p) (hb : b' = b.shiftZero p) : (if c' then a' else b') = (if c then a else b).shiftZero p := by
  subst hc ha hb
  split_ifs <;> rfl

theorem shiftZero_startWarmUp : (s.shiftZero p).startWarmUp = s.startWarmUp.shiftZero p :=
  shiftZero_ite rfl rfl rfl

theorem shiftZero_enqueue (u z : Nat) : (s.shiftZero p).enqueue u z = (s.enqueue u z).shiftZero p :=
  shiftZero_ite rfl (shiftZero_startWarmUp { s with
    queues := put1 s.queues u (s.queue u ++ [z]), supply := { s.supply with standby := none } } p) rfl

theorem shiftZero_standbyRefresh : (s.shiftZero p).standbyRefresh = s.standbyRefresh.shiftZero p :=
  shiftZero_ite rfl rfl rfl

theorem shiftZero_presetTest : (s.shiftZero p).presetTest = s.presetTest.shiftZero p :=
  shiftZero_ite rfl (by rw [shiftZero_post]; rfl) rfl

theorem shiftZero_settle : (s.shiftZero p).settle = s.settle.shiftZero p := by
  rw [State.settle, shiftZero_standbyRefresh, shiftZero_presetTest, State.settle]

theorem shiftZero_enter (u z : Nat) (k : KeyState) (cause : Option FaultCause) (g : ZoneRec → ZoneRec) :
    (s.shiftZero p).enter u z k cause g = (s.enter u z k cause g).shiftZero p := by
  unfold State.enter
  rw [shiftZero_zone?]
  cases s.zone? u z with
  | none => rfl
  | some r =>
    dsimp only
    rw [shiftZero_modZone]
    generalize s.modZone u z (fun r => g (r.rest k cause)) = s1
    rw [shiftZero_ite (c := r.state = .queued) rfl (shiftZero_dequeue s1 p u z) rfl]
    generalize (if r.state = .queued then s1.dequeue u z else s1) = s2
    rw [shiftZero_ite (c := k = .queued) rfl (shiftZero_enqueue s2 p u z) rfl]
    generalize (if k = .queued then s2.enqueue u z else s2) = s3
    rw [shiftZero_ite (c := k.alerts = true) rfl (shiftZero_post s3 p .keyAlert) rfl]
    exact shiftZero_ite rfl (shiftZero_post _ p .surveyDone) rfl

theorem shiftZero_evaluate (u z : Nat) : (s.shiftZero p).evaluate u z = (s.evaluate u z).shiftZero p := by
  unfold State.evaluate
  rw [shiftZero_zone?]
  cases s.zone? u z with
  | none => rfl
  | some r =>
    exact shiftZero_ite rfl (shiftZero_enter s p ..)
      (shiftZero_ite rfl rfl (shiftZero_ite rfl (shiftZero_enter s p ..) (shiftZero_enter s p ..)))

theorem shiftZero_retarget (u z : Nat) : (s.shiftZero p).retarget u z = (s.retarget u z).shiftZero p := by
  unfold State.retarget
  rw [shiftZero_zone?]
  cases s.zone? u z with
  | none => rfl
  | some r =>
    cases hk : r.state
    case idle | settled | missed => simp only [hk, shiftZero_evaluate]
    case queued =>
      simp only [hk]
      exact shiftZero_ite rfl (shiftZero_enter s p ..) (shiftZero_ite rfl (shiftZero_enter s p ..) rfl)
    all_goals simp only [hk, shiftZero_modZone]

theorem shiftZero_handBatch (batch : List (Nat × Nat)) :
    (s.shiftZero p).handBatch batch = (s.handBatch batch).shiftZero p := by
  have hfold : ∀ (l : List (Nat × Nat)) (t : State),
      l.foldl (fun t q => t.retarget q.1 q.2) (t.shiftZero p) =
        (l.foldl (fun t q => t.retarget q.1 q.2) t).shiftZero p := by
    intro l
    induction l with
    | nil => exact fun _ => rfl
    | cons q l ih => exact fun t => by rw [List.foldl_cons, shiftZero_retarget, ih, List.foldl_cons]
  rw [State.handBatch, hfold, shiftZero_settle, State.handBatch]

theorem shiftZero_retrySupply : (s.shiftZero p).retrySupply = s.retrySupply.shiftZero p :=
  shiftZero_ite rfl rfl (shiftZero_startWarmUp { s with supply := { s.supply with state := .off } } p)

end

/-! ### Bodies -/

/-- The result of a body, its state with the word 0 shifted out at port p. -/
def shifted (p : Port) (r : State × Answer) : State × Answer := (r.1.shiftZero p, r.2)

/-- A choice of a body commutes with the word shifted out where both of its outcomes do. -/
theorem shifted_ite {p : Port} {c c' : Prop} [Decidable c] [Decidable c'] {a b a' b' : State × Answer} (hc : c' = c)
    (ha : a' = shifted p a) (hb : b' = shifted p b) : (if c' then a' else b') = shifted p (if c then a else b) := by
  subst hc ha hb
  split_ifs <;> rfl

theorem shiftZero_setPoint (s : State) (p : Port) : setPoint (s.shiftZero p) = setPoint s := by
  rfl

/-- A recomputation does not look at the word shifted out (R69). -/
theorem shiftZero_recompute (s : State) (p : Port) (select : ZoneRec → Bool) :
    (s.shiftZero p).recompute select = ((s.recompute select).1.shiftZero p, (s.recompute select).2) := by
  unfold State.recompute
  rw [shiftZero_setPoint, shiftZero_job]
  cases s.job <;> rfl

/-- Writing trims, recomputing and handing the batch (R69, R71, R78). -/
theorem shiftZero_writeZoneTrims (s : State) (p : Port) (zones : List ZoneRec) :
    (s.shiftZero p).writeZoneTrims zones =
      ((s.writeZoneTrims zones).1.shiftZero p, (s.writeZoneTrims zones).2) := by
  have hzones : { s.shiftZero p with zones := zones } = ({ s with zones := zones } : State).shiftZero p := rfl
  rw [State.writeZoneTrims, hzones, shiftZero_recompute, shiftZero_handBatch]
  rfl

/-- A change of a port that keeps its shifted words. -/
theorem shiftZero_modPort (s : State) (p q : Port) {f : PortCtl → PortCtl}
    (h : ∀ c, f { c with out := [0] } = { f c with out := [0] }) :
    (s.shiftZero p).modPort q f = (s.modPort q f).shiftZero p := by
  cases p <;> cases q <;> simp only [State.shiftZero, State.modPort, Ports.get, Ports.set, h]

/-- A port's fields but its shifted words. -/
theorem shiftZero_port (s : State) (p q : Port) :
    ((s.shiftZero p).port q).mask = (s.port q).mask ∧ ((s.shiftZero p).port q).notices = (s.port q).notices ∧
      ((s.shiftZero p).port q).test = (s.port q).test := by
  cases p <;> cases q <;> exact ⟨rfl, rfl, rfl⟩

section
variable (ws : List Word) (s : State) (p q : Port)

theorem setMaskBody_shiftZero : setMaskBody q ws (s.shiftZero p) = shifted p (setMaskBody q ws s) := by
  obtain ⟨hmask, hnotices, -⟩ := shiftZero_port s p q
  unfold setMaskBody
  cases kindsOperand ws 0 with
  | none => rfl
  | some m => simp only [hmask, hnotices, shiftZero_modPort s p q (f := fun c => { c with mask := m }) (fun _ => rfl)]; rfl

theorem ackNoticesBody_shiftZero : ackNoticesBody q ws (s.shiftZero p) = shifted p (ackNoticesBody q ws s) := by
  obtain ⟨-, hnotices, htest⟩ := shiftZero_port s p q
  unfold ackNoticesBody
  cases kindsOperand ws 0 with
  | none => rfl
  | some w =>
    simp only [hnotices, htest,
      shiftZero_modPort s p q (f := fun c => { c with notices := c.notices &&& ~~~w }) (fun _ => rfl)]
    exact shifted_ite rfl rfl rfl

theorem setTestPostingBody_shiftZero : setTestPostingBody ws (s.shiftZero p) = shifted p (setTestPostingBody ws s) := by
  unfold setTestPostingBody
  cases portOfCode (operand ws 0) with
  | none => rfl
  | some r =>
    obtain ⟨-, -, htest⟩ := shiftZero_port s p r
    simp only [htest,
      shiftZero_modPort s p r (f := fun c => { c with test := operand ws 1 == 1 }) (fun _ => rfl)]
    exact shifted_ite rfl rfl rfl

theorem testNoticeBody_shiftZero : testNoticeBody ws (s.shiftZero p) = shifted p (testNoticeBody ws s) := by
  unfold testNoticeBody
  cases portOfCode (operand ws 0) with
  | none => rfl
  | some r =>
    obtain ⟨-, hnotices, htest⟩ := shiftZero_port s p r
    cases kindsOperand ws 1 with
    | none => rfl
    | some w =>
      simp only [hnotices, htest, State.postTo,
        shiftZero_modPort s p r (f := fun c => { c with notices := c.notices ||| w }) (fun _ => rfl)]
      exact shifted_ite rfl rfl rfl

theorem configureBody_shiftZero : configureBody ws (s.shiftZero p) = shifted p (configureBody ws s) :=
  shifted_ite rfl rfl (shifted_ite rfl rfl (shifted_ite rfl rfl rfl))

theorem readZonesBody_shiftZero : readZonesBody ws (s.shiftZero p) = shifted p (readZonesBody ws s) :=
  shifted_ite rfl rfl rfl

theorem readCurveBody_shiftZero : readCurveBody ws (s.shiftZero p) = shifted p (readCurveBody ws s) :=
  shifted_ite rfl rfl rfl

theorem defineCurveBody_shiftZero : defineCurveBody ws (s.shiftZero p) = shifted p (defineCurveBody ws s) := by
  unfold defineCurveBody
  dsimp only
  cases curveCheck (operand ws 0) (operand ws 1) (operand ws 2) (pointsOf (ws.drop 3)) with
  | none => exact shifted_ite rfl rfl rfl
  | some e => rfl

theorem deleteCurveBody_shiftZero : deleteCurveBody ws (s.shiftZero p) = shifted p (deleteCurveBody ws s) :=
  shifted_ite rfl rfl (shifted_ite rfl rfl rfl)

/-! Jobs. -/

theorem take_shiftZero (c : Stage) : (s.shiftZero p).take c = ((s.take c).1.shiftZero p, (s.take c).2) := by
  rfl

theorem takeJobBody_shiftZero : takeJobBody ws (s.shiftZero p) = shifted p (takeJobBody ws s) := by
  unfold takeJobBody
  rw [shiftZero_slot]
  cases s.slot with
  | complete c =>
    refine shifted_ite rfl ?_ rfl
    rw [take_shiftZero]
    dsimp only
    rw [shiftZero_post, shiftZero_handBatch]
    rfl
  | _ => rfl

theorem endJobBody_shiftZero : endJobBody ws (s.shiftZero p) = shifted p (endJobBody ws s) := by
  unfold endJobBody
  rw [shiftZero_job]
  cases s.job with
  | none => rfl
  | some j =>
    exact Prod.ext (shiftZero_handBatch { s with
      job := none, device := .configured, preset := false, zones := s.zones.map endedRecord } p _) rfl

theorem setSweepBody_shiftZero : setSweepBody ws (s.shiftZero p) = shifted p (setSweepBody ws s) := by
  unfold setSweepBody
  refine shifted_ite rfl rfl (shifted_ite rfl rfl ?_)
  rw [shiftZero_job]
  cases s.job with
  | none => rfl
  | some j =>
    dsimp only
    cases j.record? (operand ws 0) with
    | none => rfl
    | some r =>
      have hjob : { s.shiftZero p with job := some (j.setSweep (operand ws 0) (operand ws 1)) } =
        ({ s with job := some (j.setSweep (operand ws 0) (operand ws 1)) } : State).shiftZero p := rfl
      dsimp only
      rw [hjob, shiftZero_recompute, shiftZero_handBatch]
      rfl

/-! Staging. -/

theorem beginStageBody_shiftZero : beginStageBody ws (s.shiftZero p) = shifted p (beginStageBody ws s) := by
  have hcheck : ∀ a b us, beginStageCheck (s.shiftZero p) a b us = beginStageCheck s a b us := fun _ _ _ => rfl
  unfold beginStageBody
  simp only [shiftZero_slot, hcheck]
  cases s.slot <;> cases beginStageCheck s (operand ws 0) (operand ws 1) ((ws.drop 2).map BitVec.toNat) <;> rfl

theorem stageUnitBody_shiftZero : stageUnitBody ws (s.shiftZero p) = shifted p (stageUnitBody ws s) := by
  have hcheck : ∀ c r, stageUnitCheck (s.shiftZero p) c r = stageUnitCheck s c r := fun _ _ => rfl
  unfold stageUnitBody
  simp only [shiftZero_slot, hcheck]
  cases s.slot with
  | opened c => cases h : stageUnitCheck s c (unitParamsOf ws) <;> simp only [h] <;> rfl
  | _ => rfl

theorem stageDataBody_shiftZero : stageDataBody ws (s.shiftZero p) = shifted p (stageDataBody ws s) := by
  unfold stageDataBody
  rw [shiftZero_slot]
  cases s.slot with
  | opened c =>
    exact shifted_ite rfl rfl (shifted_ite rfl rfl (Prod.ext (shiftZero_post { s with
      slot := .failed (c.append (((ws.drop 1).map BitVec.toNat).take (c.expected - c.stream.length))) .oversize } p _) rfl))
  | _ => rfl

theorem endStageBody_shiftZero : endStageBody ws (s.shiftZero p) = shifted p (endStageBody ws s) := by
  unfold endStageBody
  rw [shiftZero_slot]
  cases s.slot with
  | opened c => exact Prod.ext (shiftZero_post { s with slot := c.closed } p _) rfl
  | _ => rfl

/-! Trims and the Loop Corrector. -/

theorem consoleTrimBody_shiftZero (wanted : List Word → Nat → ZoneRec → Int) :
    consoleTrimBody wanted ws (s.shiftZero p) = shifted p (consoleTrimBody wanted ws s) := by
  refine shifted_ite rfl rfl (shifted_ite rfl rfl ?_)
  dsimp only
  rw [shiftZero_writeZoneTrims]
  rfl

theorem clearTrimsBody_shiftZero : clearTrimsBody ws (s.shiftZero p) = shifted p (clearTrimsBody ws s) := by
  refine shifted_ite rfl rfl (shifted_ite rfl rfl ?_)
  dsimp only
  rw [shiftZero_writeZoneTrims]
  rfl

theorem setLoopHoldBody_shiftZero : setLoopHoldBody ws (s.shiftZero p) = shifted p (setLoopHoldBody ws s) := by
  refine shifted_ite rfl rfl (shifted_ite rfl rfl ?_)
  cases badFlagPlace (ws.drop 3) <;> rfl

theorem applyDeviationsBody_shiftZero : applyDeviationsBody ws (s.shiftZero p) = shifted p (applyDeviationsBody ws s) := by
  have hrefusal : recordRefusal (s.shiftZero p) ws = recordRefusal s ws := rfl
  have hused : (s.shiftZero p).usedUnit (operand ws 0) = s.usedUnit (operand ws 0) := rfl
  have hwrite : ∀ r, writeLoopTrims (s.shiftZero p) r ws = writeLoopTrims s r ws := fun _ => rfl
  unfold applyDeviationsBody
  rw [hrefusal, hused]
  cases recordRefusal s ws with
  | some a => rfl
  | none =>
    cases s.usedUnit (operand ws 0) with
    | none => rfl
    | some r =>
      dsimp only
      rw [hwrite, shiftZero_writeZoneTrims]
      rfl

/-! Zone service, limits and the supply. -/

/-- A request that names one zone. -/
theorem zoneRequest_shiftZero {body : Nat → Nat → ZoneRec → State → State × Answer}
    (h : ∀ u z r, body u z r (s.shiftZero p) = shifted p (body u z r s)) :
    zoneRequest body ws (s.shiftZero p) = shifted p (zoneRequest body ws s) := by
  refine shifted_ite rfl rfl ?_
  rw [shiftZero_zone?]
  cases s.zone? (operand ws 0) (operand ws 1) with
  | none => rfl
  | some r => exact h _ _ r

theorem codeAt_shiftZero (t : State) (u z : Nat) : (t.shiftZero p).codeAt u z = t.codeAt u z := rfl

theorem disableZone_shiftZero (u z : Nat) (r : ZoneRec) :
    (s.shiftZero p).disableZone u z r = (s.disableZone u z r).shiftZero p := by
  have henter : ∀ t : State, ((t.shiftZero p).disableAtOnce u z).settle = (t.disableAtOnce u z).settle.shiftZero p :=
    fun t => by rw [State.disableAtOnce, shiftZero_enter, shiftZero_settle, State.disableAtOnce]
  unfold State.disableZone
  cases r.state
  case moving | disabled => rfl
  case unknown => exact shiftZero_ite rfl rfl (henter s)
  case blocked | faulted => exact henter (s.modZone u z (fun r => { r with failures := 0 }))
  all_goals exact henter s

theorem disableZoneBody_shiftZero (u z : Nat) (r : ZoneRec) :
    disableZoneBody u z r (s.shiftZero p) = shifted p (disableZoneBody u z r s) := by
  unfold disableZoneBody
  rw [disableZone_shiftZero]
  rfl

theorem makeUnknown_shiftZero (u z : Nat) (g : ZoneRec → ZoneRec) :
    ((s.shiftZero p).makeUnknown u z g).settle = (s.makeUnknown u z g).settle.shiftZero p := by
  rw [State.makeUnknown, shiftZero_enter, shiftZero_settle, State.makeUnknown]

theorem enableZoneBody_shiftZero (u z : Nat) (r : ZoneRec) :
    enableZoneBody u z r (s.shiftZero p) = shifted p (enableZoneBody u z r s) := by
  unfold enableZoneBody
  rw [makeUnknown_shiftZero]
  cases r.state <;> rfl

theorem releaseZoneBody_shiftZero (u z : Nat) (r : ZoneRec) :
    releaseZoneBody u z r (s.shiftZero p) = shifted p (releaseZoneBody u z r s) := by
  unfold releaseZoneBody
  rw [makeUnknown_shiftZero, shiftZero_evaluate, shiftZero_settle]
  cases r.state <;> rfl

theorem calStored_shiftZero (u z : Nat) (k : Option KeyState) :
    (s.shiftZero p).calStored u z k = ((s.calStored u z k).1.shiftZero p, (s.calStored u z k).2) := by
  unfold State.calStored
  cases k with
  | none => rfl
  | some k => cases k <;> simp only [KeyState.keepsAtCal, makeUnknown_shiftZero] <;> rfl

theorem setKeyCalBody_shiftZero : setKeyCalBody ws (s.shiftZero p) = shifted p (setKeyCalBody ws s) := by
  have hstore : ∀ u z e, (s.shiftZero p).setCalEntry u z e = (s.setCalEntry u z e).shiftZero p := fun _ _ _ => rfl
  refine shifted_ite rfl rfl (shifted_ite rfl rfl (shifted_ite rfl rfl (shifted_ite rfl rfl (shifted_ite rfl rfl
    (shifted_ite rfl rfl ?_)))))
  dsimp only
  rw [hstore, shiftZero_zone?, calStored_shiftZero]
  rfl

theorem setLimitsBody_shiftZero : setLimitsBody ws (s.shiftZero p) = shifted p (setLimitsBody ws s) := by
  unfold setLimitsBody
  dsimp only
  split <;> rfl

theorem setLoopParametersBody_shiftZero :
    setLoopParametersBody ws (s.shiftZero p) = shifted p (setLoopParametersBody ws s) := by
  unfold setLoopParametersBody
  dsimp only
  split <;> rfl

theorem supplyRetryBody_shiftZero : supplyRetryBody ws (s.shiftZero p) = shifted p (supplyRetryBody ws s) := by
  unfold supplyRetryBody
  rw [shiftZero_supply, shiftZero_retrySupply]
  cases s.supply.state <;> rfl

end

/-- No request looks at the words its port has shifted out, or changes them (R175). -/
theorem requestBody_shiftZero (q : Req) (f : Frame) (ws : List Word) (s : State) (p : Port) :
    requestBody q f ws (s.shiftZero p) = shifted p (requestBody q f ws s) := by
  cases q
  case readZones => exact readZonesBody_shiftZero ws s p
  case readCurve => exact readCurveBody_shiftZero ws s p
  case setMask => exact setMaskBody_shiftZero ws s p f.port
  case ackNotices => exact ackNoticesBody_shiftZero ws s p f.port
  case configure => exact configureBody_shiftZero ws s p
  case takeJob => exact takeJobBody_shiftZero ws s p
  case endJob => exact endJobBody_shiftZero ws s p
  case setSweep => exact setSweepBody_shiftZero ws s p
  case defineCurve => exact defineCurveBody_shiftZero ws s p
  case deleteCurve => exact deleteCurveBody_shiftZero ws s p
  case setConsoleTrim | adjustConsoleTrim => exact consoleTrimBody_shiftZero ws s p _
  case clearTrims => exact clearTrimsBody_shiftZero ws s p
  case setLoopHold => exact setLoopHoldBody_shiftZero ws s p
  case disableZone => exact zoneRequest_shiftZero ws s p (disableZoneBody_shiftZero s p)
  case enableZone => exact zoneRequest_shiftZero ws s p (enableZoneBody_shiftZero s p)
  case releaseZone => exact zoneRequest_shiftZero ws s p (releaseZoneBody_shiftZero s p)
  case readEcho => exact zoneRequest_shiftZero ws s p (fun _ _ _ => rfl)
  case setKeyCal => exact setKeyCalBody_shiftZero ws s p
  case setLimits => exact setLimitsBody_shiftZero ws s p
  case setLoopParameters => exact setLoopParametersBody_shiftZero ws s p
  case supplyRetry => exact supplyRetryBody_shiftZero ws s p
  case setTestPosting => exact setTestPostingBody_shiftZero ws s p
  case testNotice => exact testNoticeBody_shiftZero ws s p
  case beginStage => exact beginStageBody_shiftZero ws s p
  case stageUnit => exact stageUnitBody_shiftZero ws s p
  case stageData => exact stageDataBody_shiftZero ws s p
  case endStage => exact endStageBody_shiftZero ws s p
  case applyDeviations => exact applyDeviationsBody_shiftZero ws s p
  all_goals rfl

/-! ### A request taken at a free port -/

/-- A frame that port `f.port` takes and that passes steps 1 to 4 of R177, of a request whose own checks follow. -/
structure Taken (q : Req) (f : Frame) (ws : List Word) (s : State) : Prop where
  free : Free s f.port
  words : f.words = ws
  passes : frameRefusal q f s.device = none
  judged : q ≠ .portReset ∧ q ≠ .deviceReset

theorem Carries.taken {f : Frame} {p : Port} {ws : List Word} (hf : Carries f p ws) {q : Req} {s : State}
    (hfree : Free s p) (hops : reqOperands q ws = some ws.length) (hallowed : reqAllowed q p = true)
    (hdevice : reqNeedsConfigured q = true → s.device ≠ .unconfigured) (hq : q ≠ .portReset ∧ q ≠ .deviceReset) :
    Taken q f ws s := by
  have hpass := hf.passes hops hallowed hdevice
  obtain ⟨rfl, -, hwords, -⟩ := hf
  exact ⟨hfree, hwords, hpass, hq⟩

/-- A request taken has the effect and the answer of its body on the state as it stands (R177, R178). -/
theorem Taken.exec {q : Req} {f : Frame} {ws : List Word} {s t : State} {o : ResultCode} {data : List Word}
    (h : Taken q f ws s) (hbody : requestBody q f ws s = (t, ⟨o, data⟩)) :
    exec (command q f) s = .next (answersWith (tableWrite q ws o t) f (reqCode q) o data t) := by
  obtain ⟨hfree, rfl, hpass, hreset, hdevice⟩ := h
  have hshift : requestBody q f f.words (s.shiftZero f.port) = (t.shiftZero f.port, ⟨o, data⟩) := by
    rw [requestBody_shiftZero, hbody]
    rfl
  rw [exec_command_run hreset hdevice, runRequest_of_free hfree hpass hshift]
  rfl

/-- A request that writes neither of the two kept tables. -/
theorem Taken.exec_plain {q : Req} {f : Frame} {ws : List Word} {s t : State} {o : ResultCode} {data : List Word}
    (h : Taken q f ws s) (hq : q ≠ .defineCurve ∧ q ≠ .deleteCurve ∧ q ≠ .setKeyCal)
    (hbody : requestBody q f ws s = (t, ⟨o, data⟩)) :
    Machine.exec (command q f) s = .next (answers f (reqCode q) o data t) := by
  obtain ⟨hdefine, hdelete, hcal⟩ := hq
  rw [h.exec hbody, tableWrite_of_other ws o t hdefine hdelete hcal, answers]

/-- A request refused by its own checks changes nothing but its port. -/
theorem Taken.exec_refused {q : Req} {f : Frame} {ws : List Word} {s : State} {o : ResultCode} {data : List Word}
    (h : Taken q f ws s) (ho : o ≠ .ok) (hbody : requestBody q f ws s = refuse s o data) :
    Machine.exec (command q f) s = .next (answers f (reqCode q) o data s) := by
  rw [h.exec hbody, tableWrite_of_refusal q ws s ho, answers]

end Sys2Proof.Claims
end

section
/-! PROOF. The zone records of the configuration (R4, R5, R112): their order, the one record of each pair, and the records of
a run of zones. -/

namespace Sys2Proof.Claims

open Sys2Proof.Machine Sys2Proof.Safety

/-! ### The order of the table -/

/-- The order of the table: ascending unit, and ascending zone within a unit (R112). -/
def Before (a b : Nat × Nat) : Prop := a.1 < b.1 ∨ a.1 = b.1 ∧ a.2 < b.2

theorem Before.ne {a b : Nat × Nat} (h : Before a b) : a ≠ b := by
  rintro rfl
  unfold Before at h
  omega

/-- The pair a record stands for. -/
def place (r : ZoneRec) : Nat × Nat := (r.unit, r.zone)

theorem place_eq_iff {r : ZoneRec} {u z : Nat} : place r = (u, z) ↔ r.unit = u ∧ r.zone = z :=
  Prod.mk.injEq _ _ _ _ ▸ Iff.rfl

theorem isZone_iff_place {r : ZoneRec} {u z : Nat} : r.isZone u z = true ↔ place r = (u, z) := by
  rw [r.isZone_iff, place_eq_iff]

/-- A record of a configuration is as created, for a zone of a configured unit (R4). -/
theorem mem_createdZones {nz : List Nat} {r : ZoneRec} :
    r ∈ createdZones nz ↔
      r = ZoneRec.created r.unit r.zone ∧ 1 ≤ r.unit ∧ 1 ≤ r.zone ∧ ∃ k, nz[r.unit - 1]? = some k ∧ r.zone ≤ k := by
  simp only [createdZones, List.mem_flatMap, List.mem_map, List.mem_range, Prod.exists, List.mk_mem_zipIdx_iff_getElem?]
  constructor
  · rintro ⟨k, i, hk, z, hz, rfl⟩
    exact ⟨rfl, Nat.le_add_left 1 i, Nat.le_add_left 1 z, k, hk, hz⟩
  · rintro ⟨hr, hu, hz, k, hk, hzk⟩
    refine ⟨k, r.unit - 1, hk, r.zone - 1, by omega, ?_⟩
    rw [Nat.sub_add_cancel hu, Nat.sub_add_cancel hz, ← hr]

/-- The records of a configuration stand in the order of the table (R112). -/
theorem createdZones_before (nz : List Nat) : ((createdZones nz).map place).Pairwise Before := by
  have hunits : nz.zipIdx.Pairwise (fun a b => a.2 < b.2) := by
    rw [← List.pairwise_map (f := Prod.snd) (R := (· < ·)), List.zipIdx_map_snd, ← List.range_eq_range']
    exact List.pairwise_lt_range
  rw [List.pairwise_map, createdZones, List.pairwise_flatMap]
  refine ⟨fun q _ => ?_, hunits.imp fun {a b} h x hx y hy => ?_⟩
  · rw [List.pairwise_map]
    exact List.pairwise_lt_range.imp fun {a b} h => .inr ⟨rfl, Nat.succ_lt_succ h⟩
  · obtain ⟨i, -, rfl⟩ := List.mem_map.mp hx
    obtain ⟨j, -, rfl⟩ := List.mem_map.mp hy
    exact .inl (Nat.succ_lt_succ h)

/-- The number of records of a configuration is the sum of its Nz(u) (R4). -/
theorem createdZones_length (nz : List Nat) : (createdZones nz).length = nz.sum := by
  have h : (fun q : Nat × Nat => ((List.range q.1).map (fun z => ZoneRec.created (q.2 + 1) (z + 1))).length) = Prod.fst := by
    funext q
    rw [List.length_map, List.length_range]
  rw [createdZones, List.length_flatMap, h, List.zipIdx_map_fst]

/-- Nz(u) of a configured unit is its entry of the list (R3). -/
theorem le_zonesOf_iff {s : State} {u z : Nat} (hz : 1 ≤ z) :
    z ≤ s.zonesOf u ↔ 1 ≤ u ∧ ∃ k, s.nz[u - 1]? = some k ∧ z ≤ k := by
  unfold State.zonesOf
  by_cases hu : u = 0
  · simp [hu]
    omega
  · rw [if_neg hu, List.getD_eq_getElem?_getD]
    cases s.nz[u - 1]? with
    | none => simp; omega
    | some k => simp; omega

/-! ### The records of a state -/

section
variable {s : State}

theorem records_before (h : RecordsOk s) : (s.zones.map place).Pairwise Before := by
  obtain ⟨-, hpairs⟩ := h
  have hplaces : s.zones.map place = (createdZones s.nz).map place := hpairs
  rw [hplaces]
  exact createdZones_before s.nz

theorem records_nodup (h : RecordsOk s) : (s.zones.map place).Nodup :=
  (records_before h).imp Before.ne

/-- The pairs of the table are the valid pairs (R4, R5). -/
theorem records_mem_places (h : RecordsOk s) {u z : Nat} :
    (u, z) ∈ s.zones.map place ↔ 1 ≤ z ∧ z ≤ s.zonesOf u := by
  obtain ⟨-, hpairs⟩ := h
  have hplaces : s.zones.map place = (createdZones s.nz).map place := hpairs
  rw [hplaces, List.mem_map]
  constructor
  · rintro ⟨r, hr, hp⟩
    obtain ⟨rfl, rfl⟩ := place_eq_iff.mp hp
    obtain ⟨-, hu, hz, hk⟩ := mem_createdZones.mp hr
    exact ⟨hz, (le_zonesOf_iff hz).mpr ⟨hu, hk⟩⟩
  · rintro ⟨hz, hzk⟩
    obtain ⟨hu, hk⟩ := (le_zonesOf_iff hz).mp hzk
    exact ⟨ZoneRec.created u z, mem_createdZones.mpr ⟨rfl, hu, hz, hk⟩, rfl⟩

/-- A configured unit is among units 1 to 8 (R3). -/
theorem zonesOf_pos {u z : Nat} (hz : 1 ≤ z) (hzk : z ≤ s.zonesOf u) : 1 ≤ u ∧ u ≤ s.nz.length := by
  obtain ⟨hu, k, hk, -⟩ := (le_zonesOf_iff hz).mp hzk
  have := (List.getElem?_eq_some_iff.mp hk).1
  exact ⟨hu, by omega⟩

theorem records_unit_of_mem (h : RecordsOk s) {r : ZoneRec} (hr : r ∈ s.zones) :
    1 ≤ r.unit ∧ r.unit ≤ 8 ∧ r.unit ≤ s.nz.length ∧ 1 ≤ r.zone ∧ r.zone ≤ s.zonesOf r.unit := by
  have hmem : (r.unit, r.zone) ∈ s.zones.map place := List.mem_map_of_mem hr
  obtain ⟨hz, hzk⟩ := (records_mem_places h).mp hmem
  obtain ⟨hu, hlen⟩ := zonesOf_pos hz hzk
  have h8 := h.1
  exact ⟨hu, hlen.trans h8, hlen, hz, hzk⟩

/-- A table whose pairs are all different has one record for a pair. -/
theorem eq_of_place_eq {l : List ZoneRec} (h : (l.map place).Nodup) {a b : ZoneRec} (ha : a ∈ l) (hb : b ∈ l)
    (hab : place a = place b) : a = b :=
  List.inj_on_of_nodup_map h ha hb hab

/-- Looking a pair up finds the one record that stands for it. -/
theorem zone?_eq_some_iff (h : (s.zones.map place).Nodup) {u z : Nat} {r : ZoneRec} :
    s.zone? u z = some r ↔ r ∈ s.zones ∧ r.unit = u ∧ r.zone = z := by
  refine ⟨State.zone?_some, fun ⟨hr, hu, hz⟩ => ?_⟩
  have hfound : (s.zone? u z).isSome := by
    rw [State.zone?, List.find?_isSome]
    exact ⟨r, hr, (r.isZone_iff u z).mpr ⟨hu, hz⟩⟩
  obtain ⟨q, hq⟩ := Option.isSome_iff_exists.mp hfound
  obtain ⟨hmem, hqu, hqz⟩ := State.zone?_some hq
  rw [hq, eq_of_place_eq h hmem hr (by rw [place, place, hqu, hqz, hu, hz])]

theorem records_zone?_of_mem (h : RecordsOk s) {r : ZoneRec} (hr : r ∈ s.zones) : s.zone? r.unit r.zone = some r :=
  (zone?_eq_some_iff (records_nodup h)).mpr ⟨hr, rfl, rfl⟩

/-- There is a record for a pair exactly when the pair is valid (R4, R5). -/
theorem records_zone?_isSome (h : RecordsOk s) {u z : Nat} : (s.zone? u z).isSome ↔ 1 ≤ z ∧ z ≤ s.zonesOf u := by
  rw [← records_mem_places h, State.zone?, List.find?_isSome, List.mem_map]
  constructor
  · rintro ⟨r, hr, hz⟩
    exact ⟨r, hr, isZone_iff_place.mp hz⟩
  · rintro ⟨r, hr, hz⟩
    exact ⟨r, hr, isZone_iff_place.mpr hz⟩

theorem unitConfigured_eq (u : Nat) : s.unitConfigured u = decide (1 ≤ u ∧ u ≤ s.nz.length) := by
  rw [State.unitConfigured, State.unitCount, Bool.decide_and]

theorem records_validZone_iff (h : RecordsOk s) {u z : Nat} : s.validZone u z = true ↔ (s.zone? u z).isSome := by
  rw [records_zone?_isSome h]
  rw [State.validZone, unitConfigured_eq]
  simp only [Bool.and_eq_true, decide_eq_true_eq, and_assoc]
  constructor
  · rintro ⟨-, -, hz, hzk⟩
    exact ⟨hz, hzk⟩
  · rintro ⟨hz, hzk⟩
    obtain ⟨hu, hlen⟩ := zonesOf_pos hz hzk
    exact ⟨hu, hlen, hz, hzk⟩

/-- A range is valid when its unit is configured and its zones lie within it (R5). -/
theorem validRange_iff {u f n : Nat} :
    s.validRange u f n = true ↔ 1 ≤ u ∧ u ≤ s.nz.length ∧ 1 ≤ f ∧ 1 ≤ n ∧ f + n - 1 ≤ s.zonesOf u := by
  rw [State.validRange, unitConfigured_eq]
  simp only [Bool.and_eq_true, decide_eq_true_eq, and_assoc]
  omega

/-! ### The records of a run -/

/-- The zones of a run within a unit are its records in ascending order (R183). -/
theorem rangeZones_zones (h : RecordsOk s) {u f n : Nat} (hf : 1 ≤ f) (hn : f + n ≤ s.zonesOf u + 1) :
    (s.rangeZones u f n).map ZoneRec.zone = List.range' f n := by
  have hmem : ∀ r ∈ s.rangeZones u f n, r ∈ s.zones ∧ r.unit = u ∧ f ≤ r.zone ∧ r.zone < f + n := by
    intro r hr
    simpa only [State.rangeZones, List.mem_filter, Bool.and_eq_true, beq_iff_eq, decide_eq_true_eq, and_assoc] using hr
  have hsorted : ((s.rangeZones u f n).map ZoneRec.zone).Pairwise (· < ·) := by
    have hplaces : (s.rangeZones u f n).Pairwise (fun a b => Before (place a) (place b)) :=
      (List.pairwise_map.mp (records_before h)).filter _
    rw [List.pairwise_map]
    refine hplaces.imp_of_mem fun {a b} ha hb hab => ?_
    obtain ⟨-, hau, -⟩ := hmem a ha
    obtain ⟨-, hbu, -⟩ := hmem b hb
    have hab' : a.unit < b.unit ∨ a.unit = b.unit ∧ a.zone < b.zone := hab
    omega
  refine hsorted.eq_of_mem_iff (List.pairwise_lt_range' (s := f) (n := n)) fun z => ?_
  rw [List.mem_map, List.mem_range'_1]
  constructor
  · rintro ⟨r, hr, rfl⟩
    exact (hmem r hr).2.2
  · rintro ⟨hz, hz'⟩
    obtain ⟨r, hr⟩ := Option.isSome_iff_exists.mp ((records_zone?_isSome h).mpr ⟨hf.trans hz, (by omega : z ≤ s.zonesOf u)⟩)
    obtain ⟨hr, hru, hrz⟩ := State.zone?_some hr
    refine ⟨r, ?_, hrz⟩
    simp only [State.rangeZones, List.mem_filter, Bool.and_eq_true, beq_iff_eq, decide_eq_true_eq]
    exact ⟨hr, ⟨hru, by omega⟩, by omega⟩

theorem rangeZones_length (h : RecordsOk s) {u f n : Nat} (hf : 1 ≤ f) (hn : f + n ≤ s.zonesOf u + 1) :
    (s.rangeZones u f n).length = n := by
  rw [← List.length_map (f := ZoneRec.zone), (rangeZones_zones h) hf hn, List.length_range']

theorem rangeZones_get (h : RecordsOk s) {u f n i : Nat} (hf : 1 ≤ f) (hn : f + n ≤ s.zonesOf u + 1) (hi : i < n) :
    ∃ r, (s.rangeZones u f n)[i]? = some r ∧ s.zone? u (f + i) = some r := by
  have hlen := (rangeZones_length h) hf hn
  have hget : (s.rangeZones u f n)[i]? = some (s.rangeZones u f n)[i] := List.getElem?_eq_getElem (by omega)
  refine ⟨_, hget, (zone?_eq_some_iff (records_nodup h)).mpr ?_⟩
  have hmem := List.getElem_mem (l := s.rangeZones u f n) (n := i) (by omega)
  have hzone : ((s.rangeZones u f n).map ZoneRec.zone)[i]? = some (s.rangeZones u f n)[i].zone := by
    rw [List.getElem?_map, hget]
    rfl
  rw [(rangeZones_zones h) hf hn, List.getElem?_range' hi] at hzone
  simp only [State.rangeZones, List.mem_filter, Bool.and_eq_true, beq_iff_eq, decide_eq_true_eq] at hmem
  obtain ⟨hmem, ⟨hunit, -⟩, -⟩ := hmem
  exact ⟨hmem, hunit, by simpa using hzone.symm⟩

end

end Sys2Proof.Claims
end

section
/-! PROOF. The requests common to all ports: READ ZONES and the zone readout record (R183), READ JOB (R52), READ CURVE (R28),
notices, masks and test posting (R184 to R187). -/

namespace Sys2Proof.Claims

open Sys2Proof.Machine Sys2Proof.Safety

/-! ### READ ZONES -/

/-- A word read as a number and sent again is itself. -/
theorem uword_toNat (w : Word) : uword w.toNat = w :=
  (BitVec.ofNat_toNat 16 w).trans (BitVec.setWidth_eq w)

theorem readoutRecord_length (r : ZoneRec) : (readoutRecord r).length = 12 := by
  rfl

theorem flatMap_readoutRecord_length (l : List ZoneRec) : (l.flatMap readoutRecord).length = 12 * l.length := by
  induction l with
  | nil => rfl
  | cons r l ih => rw [List.flatMap_cons, List.length_append, ih, readoutRecord_length, List.length_cons]; omega

/-- READ ZONES of a valid range answers its records and of another one BAD_PARAM (R183). -/
theorem readZonesBody_eq (u f n : Word) (s : State) :
    readZonesBody [u, f, n] s =
      if s.validRange u.toNat f.toNat n.toNat then
        accept s ([u, f, n] ++ (s.rangeZones u.toNat f.toNat n.toNat).flatMap readoutRecord)
      else refuse s .badParam [] := by
  have hu : operand [u, f, n] 0 = u.toNat := rfl
  have hf : operand [u, f, n] 1 = f.toNat := rfl
  have hn : operand [u, f, n] 2 = n.toNat := rfl
  simp only [readZonesBody, hu, hf, hn, uword_toNat]
  cases s.validRange u.toNat f.toNat n.toNat <;> rfl

/-- Settles O12: a range is valid as R5 says, and its records stand in the table in ascending order. -/
theorem readZonesReportsTheRange : Obligations.ReadZonesReportsTheRange := by
  intro s fr p u f n hfree hfr hdevice hrecords valid
  have htaken : Taken .readZones fr [u, f, n] s := hfr.taken hfree rfl rfl (fun _ => hdevice) (by decide)
  have hvalid : s.validRange u.toNat f.toNat n.toNat = true ↔ valid := validRange_iff
  refine ⟨fun h => ?_, fun h => htaken.exec_refused nofun ?_⟩
  · have ⟨_, _, hf, hn, hlast⟩ := h
    have hrun : f.toNat + n.toNat ≤ s.zonesOf u.toNat + 1 := by omega
    have hlen := rangeZones_length hrecords hf hrun
    refine ⟨s.rangeZones u.toNat f.toNat n.toNat, fun i hi => rangeZones_get hrecords hf hrun hi, hlen,
      htaken.exec_plain (by decide) ?_, ?_⟩
    · exact (readZonesBody_eq u f n s).trans (if_pos (hvalid.mpr h))
    · rw [List.length_append, flatMap_readoutRecord_length, hlen]
      rfl
  · exact (readZonesBody_eq u f n s).trans (if_neg (fun e => h (hvalid.mp e)))

/-! ### The zone readout record -/

theorem keyStateCode_eq_keyNumber (k : KeyState) : keyStateCode k = keyNumber k := by
  cases k <;> rfl

theorem keyStateCode_lt (k : KeyState) : keyStateCode k < 16 := by
  cases k <;> decide

theorem faultCauseCode_lt (c : Option FaultCause) : faultCauseCode c < 4 := by
  rcases c with _ | c <;> [decide; cases c <;> decide]

theorem flagBit_eq (b : Bool) (i : Nat) : flagBit b i = b.toNat * 2 ^ i := by
  cases b <;> simp [flagBit]

/-- Bit i of a word that carries a number. -/
theorem uword_getLsbD {n i : Nat} (hi : i < 16) {b : Bool} (h : n / 2 ^ i % 2 = b.toNat) : (uword n).getLsbD i = b := by
  rw [uword, BitVec.getLsbD_ofNat, decide_eq_true hi, Bool.true_and, Nat.testBit_eq_decide_div_mod_eq, h]
  cases b <;> rfl

/-- A field of a word that carries a number. -/
theorem uword_extract {n i k v : Nat} (h : n % 65536 / 2 ^ i % 2 ^ k = v) : ((uword n).extractLsb' i k).toNat = v := by
  rw [BitVec.extractLsb'_toNat, uword, BitVec.toNat_ofNat, Nat.shiftRight_eq_div_pow]
  exact h

/-- The flag word of the record: each flag in its bit, the retry count in bits 5 and 4. -/
theorem flagWord_bits {b15 b14 b13 b12 b11 b10 b9 b8 b7 b6 b3 b2 b1 b0 : Bool} {n : Nat} (hn : n ≤ 2) :
    let w := uword (flagBit b15 15 + flagBit b14 14 + flagBit b13 13 + flagBit b12 12 + flagBit b11 11 + flagBit b10 10
      + flagBit b9 9 + flagBit b8 8 + flagBit b7 7 + flagBit b6 6 + n * 16 + flagBit b0 0 + flagBit b1 1 + flagBit b2 2
      + flagBit b3 3)
    w.getLsbD 15 = b15 ∧ w.getLsbD 14 = b14 ∧ w.getLsbD 13 = b13 ∧ w.getLsbD 12 = b12 ∧ w.getLsbD 11 = b11 ∧
      w.getLsbD 10 = b10 ∧ w.getLsbD 9 = b9 ∧ w.getLsbD 8 = b8 ∧ w.getLsbD 7 = b7 ∧ w.getLsbD 6 = b6 ∧
      (w.extractLsb' 4 2).toNat = n ∧ w.getLsbD 0 = b0 ∧ w.getLsbD 1 = b1 ∧ w.getLsbD 2 = b2 ∧ w.getLsbD 3 = b3 := by
  intro w
  have hle : ∀ b : Bool, b.toNat ≤ 1 := Bool.toNat_le
  have h15 := hle b15; have h14 := hle b14; have h13 := hle b13; have h12 := hle b12; have h11 := hle b11
  have h10 := hle b10; have h9 := hle b9; have h8 := hle b8; have h7 := hle b7; have h6 := hle b6
  have h3 := hle b3; have h2 := hle b2; have h1 := hle b1; have h0 := hle b0
  simp only [w, flagBit_eq]
  refine ⟨uword_getLsbD (by decide) ?_, uword_getLsbD (by decide) ?_, uword_getLsbD (by decide) ?_,
    uword_getLsbD (by decide) ?_, uword_getLsbD (by decide) ?_, uword_getLsbD (by decide) ?_, uword_getLsbD (by decide) ?_,
    uword_getLsbD (by decide) ?_, uword_getLsbD (by decide) ?_, uword_getLsbD (by decide) ?_, uword_extract ?_,
    uword_getLsbD (by decide) ?_, uword_getLsbD (by decide) ?_, uword_getLsbD (by decide) ?_, uword_getLsbD (by decide) ?_⟩
  all_goals omega

/-- Settles O13: each word of the record is a sum of its fields at their places. -/
theorem readoutRecordHoldsEveryField : Obligations.ReadoutRecordHoldsEveryField := by
  intro r hunit hzone hretries hfailures hwidth
  have hkey := keyStateCode_lt r.state
  have hcause := faultCauseCode_lt r.faultCause
  obtain ⟨h15, h14, h13, h12, h11, h10, h9, h8, h7, h6, hcount, h0, h1, h2, h3⟩ :=
    flagWord_bits (b15 := r.coverage.isSome) (b14 := r.effective.isSome) (b13 := r.base.isSome)
      (b12 := r.target.isSome) (b11 := r.measured.isSome) (b10 := r.echoWidth.isSome) (b9 := r.settleStamp.isSome)
      (b8 := r.limit) (b7 := r.loopHold) (b6 := r.stale) (b3 := r.halts.survey) (b2 := r.halts.disable)
      (b1 := r.halts.timeout) (b0 := r.halts.freeze) hretries
  refine ⟨uword (r.unit * 4096 + r.zone * 64 + keyStateCode r.state * 4 + faultCauseCode r.faultCause), _,
    uword (r.failures * 16384 + r.echoWidth.getD 0), ?_, uword_extract ?_, uword_extract ?_, ?_, ?_, h15, h14, h13, h12,
        h11, h10, h9, h8, h7, h6, hcount,
    h0, h1, h2, h3, uword_extract ?_, uword_extract ?_⟩
  · rw [readoutRecord, upper_eq_upperWord, lower_eq_lowerWord]
    rfl
  · omega
  · omega
  · rw [← keyStateCode_eq_keyNumber]
    exact uword_extract (by omega)
  · have hfield := uword_extract (n := r.unit * 4096 + r.zone * 64 + keyStateCode r.state * 4 + faultCauseCode r.faultCause)
      (i := 0) (k := 2) (v := faultCauseCode r.faultCause) (by omega)
    rw [hfield]
    rcases r.faultCause with _ | c <;> [rfl; cases c <;> rfl]
  · omega
  · omega

/-! ### READ JOB -/

/-- The record of a used unit is found under its unit (R44). -/
theorem record?_of_used {j : ActiveJob} (h : AllRecorded j.units j.records) {u : Nat} (hu : u ∈ j.units) :
    ∃ p, j.record? u = some p ∧ j.records.find? (fun q => q.unit == u) = some p ∧ p.unit = u := by
  obtain ⟨q, hq, hqu⟩ := h u hu
  have hsome : (j.records.find? (fun q => q.unit == u)).isSome := by
    rw [List.find?_isSome]
    exact ⟨q, hq, beq_iff_eq.mpr hqu⟩
  obtain ⟨p, hp⟩ := Option.isSome_iff_exists.mp hsome
  have hunit : p.unit = u := beq_iff_eq.mp (List.find?_some (p := fun q : UnitParams => q.unit == u) hp)
  refine ⟨p, ?_, hp, hunit⟩
  rw [ActiveJob.record?, if_pos (List.contains_iff_mem.mpr hu), hp]

/-- Every used unit is reported, in list order, with its seven words (R52). -/
theorem activeUnits_of_recorded {j : ActiveJob} (h : AllRecorded j.units j.records) {words : Nat → List Word}
    (hwords : ∀ u p, j.records.find? (fun q => q.unit == u) = some p → p.unit = u → activeUnitWords p = words u) :
    (activeUnits (some j)).length = j.units.length ∧ (activeUnits (some j)).flatMap activeUnitWords = j.units.flatMap words := by
  have hall : ∀ l : List Nat, (∀ u ∈ l, u ∈ j.units) →
      (l.filterMap j.record?).length = l.length ∧ (l.filterMap j.record?).flatMap activeUnitWords = l.flatMap words := by
    intro l hl
    induction l with
    | nil => exact ⟨rfl, rfl⟩
    | cons u l ih =>
      obtain ⟨p, hp, hfind, hunit⟩ := record?_of_used h (hl u List.mem_cons_self)
      obtain ⟨hlen, hflat⟩ := ih (fun v hv => hl v (List.mem_cons_of_mem u hv))
      rw [List.filterMap_cons_some hp, List.length_cons, hlen, List.length_cons, List.flatMap_cons, hflat,
        List.flatMap_cons, hwords u p hfind hunit]
      exact ⟨rfl, rfl⟩
  exact hall j.units (fun _ hu => hu)

theorem slotCode_eq_slotNumber (k : Slot) : slotCode k = slotNumber k := by
  cases k <;> rfl

/-- The eight words of each listed unit of the staged slot (R52). -/
theorem stagedUnitWords_eq (c : Stage) (u : Nat) :
    stagedUnitWords c u = num u :: (c.records.find? (fun q => q.unit == u)).elim (List.replicate 7 0)
      (fun q => 1 :: [num q.curve, num q.sweep, num q.s1, num q.s2, num q.first, num q.last]) := by
  unfold stagedUnitWords
  cases c.records.find? (fun q => q.unit == u) <;> rfl

/-- Settles O14: the twelve fixed words, then the used units, then the listed units of a slot that is not EMPTY. -/
theorem readJobReportsBothJobs : Obligations.ReadJobReportsBothJobs := by
  intro s f p hfree hf hdevice hjob parameters record active staged head
  have htaken : Taken .readJob f [] s := hf.taken hfree rfl rfl (fun _ => hdevice) (by decide)
  refine htaken.exec_plain (by decide) (Prod.ext rfl (congrArg (Answer.mk .ok) ?_))
  have hactive : (activeUnits s.job).length = s.job.elim 0 (fun j => j.units.length) ∧
      (activeUnits s.job).flatMap activeUnitWords = active := by
    cases hj : s.job with
    | none => simp only [active, hj]; exact ⟨rfl, rfl⟩
    | some j =>
      obtain ⟨-, hall⟩ := hjob j hj
      simp only [active, hj]
      refine activeUnits_of_recorded hall fun u q hfind hunit => ?_
      simp only [record, hfind]
      rw [activeUnitWords, hunit]
      rfl
  have hstaged : ∀ c : Stage, c.units.flatMap (stagedUnitWords c) = staged c := fun c => by
    rw [funext (stagedUnitWords_eq c)]
  have hfixed : ∀ cause no total received clamped n,
      [uword (deviceCode s.device), uword s.jobNo, bword s.preset, uword (s.zones.countP (fun r => r.state != .settled)),
        uword (slotCode s.slot), uword cause] ++ [uword no, uword total, uword received, uword clamped]
        ++ [uword (activeUnits s.job).length, uword n] = head cause no total received clamped n := by
    intro cause no total received clamped n
    have hno : s.jobNo = s.job.elim 0 ActiveJob.jobNo := by
      unfold State.jobNo
      cases s.job <;> rfl
    rw [hactive.1, hno, deviceCode_eq_deviceNumber, slotCode_eq_slotNumber]
    rfl
  cases hslot : s.slot with
  | empty =>
    have h := hfixed 0 0 0 0 0 0
    simp only [hslot] at h
    simp only [readJobData, hslot, hactive.2, ← h]
    exact List.append_nil _
  | opened c | complete c =>
    have h := hfixed 0 c.jobNo c.expected c.stream.length c.clamped c.units.length
    simp only [hslot] at h
    simp only [readJobData, hslot, hactive.2, ← h, ← hstaged]
    rfl
  | failed c cause =>
    have h := hfixed (stageCauseCode cause) c.jobNo c.expected c.stream.length c.clamped c.units.length
    simp only [hslot] at h
    cases cause <;>
      (simp only [readJobData, hslot, hactive.2, ← hstaged]; exact congrArg (· ++ active ++ _) h)

/-! ### READ CURVE -/

theorem readCurveBody_eq (k : Word) (s : State) :
    readCurveBody [k] s =
      if 15 < k.toNat then refuse s .badParam [1, 0]
      else accept s ([k, flag (s.curve? k.toNat).isSome, num (s.activeUses k.toNat), num (s.stagedUses k.toNat)]
        ++ curveWords (s.curve? k.toNat)) := by
  have hk : operand [k] 0 = k.toNat := rfl
  simp only [readCurveBody, hk, uword_toNat]
  rfl

theorem stagedUses_eq (s : State) (k : Nat) :
    s.stagedUses k =
      match s.slot with
      | .empty => 0
      | .opened c | .complete c | .failed c _ => c.records.countP (fun q => q.curve == k) := by
  unfold State.stagedUses
  cases s.slot <;> rfl

/-- Settles O15: the refusal above 15, and both reports. -/
theorem readCurveReportsTheSlot : Obligations.ReadCurveReportsTheSlot := by
  intro s f p k hfree hf uses
  have htaken : Taken .readCurve f [k] s := hf.taken hfree rfl rfl nofun (by decide)
  have huses : uses = [num (s.activeUses k.toNat), num (s.stagedUses k.toNat)] := by
    rw [stagedUses_eq]
    rfl
  refine ⟨fun h => htaken.exec_refused nofun ?_, fun h hnone => htaken.exec_plain (by decide) ?_,
    fun c h hc => htaken.exec_plain (by decide) ?_⟩
  · exact (readCurveBody_eq k s).trans (if_pos h)
  · refine (readCurveBody_eq k s).trans ((if_neg (by omega)).trans ?_)
    rw [hnone, huses]
    rfl
  · refine (readCurveBody_eq k s).trans ((if_neg (by omega)).trans ?_)
    rw [hc, huses]
    rfl

/-! ### Notices, masks and test posting -/

/-- An attention line is asserted exactly while set and mask have a kind in common (R185). -/
theorem attention_iff (c : PortCtl) :
    c.attention = true ↔ ∃ i < 8, c.notices.getLsbD i = true ∧ c.mask.getLsbD i = true := by
  have hzero : ∀ i, (0 : BitVec 8).getLsbD i = false := fun _ => BitVec.getLsbD_zero
  rw [PortCtl.attention, bne_iff_ne, ne_eq, ← not_iff_not, not_not]
  constructor
  · rintro h ⟨i, -, hn, hm⟩
    have hbit : (c.notices &&& c.mask).getLsbD i = true := by rw [BitVec.getLsbD_and, hn, hm]; rfl
    rw [h, hzero] at hbit
    exact absurd hbit (by decide)
  · intro h
    refine BitVec.eq_of_getLsbD_eq fun i hi => ?_
    rw [BitVec.getLsbD_and, hzero, Bool.eq_false_iff]
    exact fun hb => h ⟨i, hi, (Bool.and_eq_true_iff.mp hb).1, (Bool.and_eq_true_iff.mp hb).2⟩

/-- A word names kinds exactly when its upper byte is clear (R185 to R187). -/
theorem kindsOperand_of_lt {ws : List Word} {i : Nat} {w : Word} (hw : ws.getD i 0 = w) (h : w.toNat < 256) :
    kindsOperand ws i = some (w.setWidth 8) := by
  rw [kindsOperand, operand, hw, if_pos h, BitVec.ofNat_toNat]

theorem kindsOperand_of_ge {ws : List Word} {i : Nat} {w : Word} (hw : ws.getD i 0 = w) (h : 256 ≤ w.toNat) :
    kindsOperand ws i = none := by
  rw [kindsOperand, operand, hw, if_neg (by omega)]

/-- Settles O16: postings by the routing table, the attention law, and the two requests on their own port. -/
theorem noticesMasksAndAttention : Obligations.NoticesMasksAndAttention := by
  refine ⟨?_, attention_iff, fun s f p w hfree hf => ?_⟩
  · intro s k p routed
    rw [State.post_port]
    cases k <;> exact ⟨rfl, rfl⟩
  · have hmask : Taken .setMask f [w] s := hf.taken hfree rfl rfl nofun (by decide)
    have hack : Taken .ackNotices f [w] s := hf.taken hfree rfl rfl nofun (by decide)
    obtain ⟨rfl, -⟩ := hf
    refine ⟨fun h => ?_, fun h => ?_, fun h ht => ?_, fun h ht => ?_⟩
    · have hkinds : kindsOperand [w] 0 = none := kindsOperand_of_ge rfl h
      refine ⟨hmask.exec_refused nofun ?_, hack.exec_refused nofun ?_⟩
      · simp only [requestBody, setMaskBody, hkinds]
      · simp only [requestBody, ackNoticesBody, hkinds]
    all_goals have hkinds : kindsOperand [w] 0 = some (w.setWidth 8) := kindsOperand_of_lt rfl h
    · refine hmask.exec_plain (by decide) ?_
      simp only [requestBody, setMaskBody, hkinds]
      rfl
    · refine hack.exec_refused nofun ?_
      simp only [requestBody, ackNoticesBody, hkinds, ht, if_true]
    · refine hack.exec_plain (by decide) ?_
      simp only [requestBody, ackNoticesBody, hkinds, ht, Bool.false_eq_true, if_false]
      rfl

/-- The code of a port in the operands of the two test requests (R187). -/
def portNumber : Port → Nat
  | .console => 1
  | .job => 2
  | .loop => 3

theorem portOfCode_portNumber (p : Port) : portOfCode (portNumber p) = some p := by
  cases p <;> rfl

theorem portOfCode_of_other {n : Nat} (h : n < 1 ∨ 3 < n) : portOfCode n = none := by
  unfold portOfCode
  split
  · omega
  · omega
  · omega
  · rfl

/-- Settles O17: the checks of the two requests in their order, and what they write. -/
theorem testPostingIsGatedByTheSwitch : Obligations.TestPostingIsGatedByTheSwitch := by
  intro s f code w hfree hf named
  have hset : Taken .setTestPosting f [code, w] s := hf.taken hfree rfl rfl nofun (by decide)
  have htest : Taken .testNotice f [code, w] s := hf.taken hfree rfl rfl nofun (by decide)
  have hcode : operand [code, w] 0 = code.toNat := rfl
  have hw : operand [code, w] 1 = w.toNat := rfl
  refine ⟨fun h => ?_, fun p hp => ?_⟩
  · have hnone := portOfCode_of_other h
    refine ⟨hset.exec_refused nofun ?_, htest.exec_refused nofun ?_⟩
    · simp only [requestBody, setTestPostingBody, hcode, hnone]
    · simp only [requestBody, testNoticeBody, hcode, hnone]
  · have hsome : portOfCode code.toNat = some p := by
      have hp' : code.toNat = portNumber p := hp.trans (by cases p <;> rfl)
      rw [hp', portOfCode_portNumber]
    refine ⟨fun h => hset.exec_refused nofun ?_, fun h => hset.exec_plain (by decide) ?_,
      fun h => htest.exec_refused nofun ?_, fun h hoff => htest.exec_refused nofun ?_,
      fun h hon => htest.exec_plain (by decide) ?_⟩
    · simp only [requestBody, setTestPostingBody, hcode, hw, hsome, h, if_true]
    · have hswitch : (w.toNat == 1) = (w == 1) := by
        rw [Bool.eq_iff_iff, beq_iff_eq, beq_iff_eq, ← BitVec.toNat_inj]
        rfl
      simp only [requestBody, setTestPostingBody, hcode, hw, hsome, not_lt.mpr h, if_false, hswitch]
      rfl
    · simp only [requestBody, testNoticeBody, hcode, hsome, kindsOperand_of_ge (ws := [code, w]) (i := 1) rfl h]
    · simp only [requestBody, testNoticeBody, hcode, hsome, kindsOperand_of_lt (ws := [code, w]) (i := 1) rfl h, hoff,
        Bool.not_false, if_true]
    · simp only [requestBody, testNoticeBody, hcode, hsome, kindsOperand_of_lt (ws := [code, w]) (i := 1) rfl h, hon,
        Bool.not_true, Bool.false_eq_true, if_false]
      rfl

end Sys2Proof.Claims
end

section
/-! PROOF. CONFIGURE (R3, R4), power-on and the reset phases (R172, R173), the curve requests (R21 to R25) and the staged slot
(R33 to R42). -/

namespace Sys2Proof.Claims

open Sys2Proof.Machine Sys2Proof.Safety

/-! ### CONFIGURE -/

theorem configureBody_eq (n : Word) (ks : List Word) (s : State) :
    configureBody (n :: ks) s =
      if s.device ≠ .unconfigured then refuse s .wrongState []
      else if n.toNat < 1 ∨ 8 < n.toNat then refuse s .badParam []
      else if (ks.map BitVec.toNat).any (fun k => k < 12 || 36 < k) then refuse s .badParam []
      else accept (s.configured (ks.map BitVec.toNat)) [num (ks.map BitVec.toNat).sum] := by
  rfl

theorem any_outOfRange_iff (ks : List Word) :
    (ks.map BitVec.toNat).any (fun k => k < 12 || 36 < k) = true ↔ ∃ k ∈ ks, k.toNat < 12 ∨ 36 < k.toNat := by
  simp only [List.any_map, List.any_eq_true, Function.comp_apply, Bool.or_eq_true, decide_eq_true_eq]

/-- The table an accepted CONFIGURE creates (R4). -/
theorem configured_zones (s : State) (ks : List Word) :
    (s.configured (ks.map BitVec.toNat)).zones.length = (ks.map BitVec.toNat).sum ∧
      (s.configured (ks.map BitVec.toNat)).zones.Pairwise
        (fun a b => a.unit < b.unit ∨ a.unit = b.unit ∧ a.zone < b.zone) ∧
      (∀ r ∈ (s.configured (ks.map BitVec.toNat)).zones, r = ZoneRec.created r.unit r.zone) ∧
      ∀ u z, ((s.configured (ks.map BitVec.toNat)).zone? u z).isSome ↔
        1 ≤ u ∧ 1 ≤ z ∧ ∃ k, ks[u - 1]? = some k ∧ z ≤ k.toNat := by
  refine ⟨createdZones_length _, List.pairwise_map.mp (createdZones_before _), fun r hr => (mem_createdZones.mp hr).1,
    fun u z => ?_⟩
  have hget : ∀ k, (ks.map BitVec.toNat)[u - 1]? = some k ↔ ∃ w, ks[u - 1]? = some w ∧ w.toNat = k := by
    intro k
    rw [List.getElem?_map, Option.map_eq_some_iff]
  rw [State.zone?, List.find?_isSome]
  constructor
  · rintro ⟨r, hr, hz⟩
    obtain ⟨-, hu, hz', k, hk, hzk⟩ := mem_createdZones.mp hr
    obtain ⟨rfl, rfl⟩ := (r.isZone_iff u z).mp hz
    obtain ⟨w, hw, rfl⟩ := (hget k).mp hk
    exact ⟨hu, hz', w, hw, hzk⟩
  · rintro ⟨hu, hz, w, hw, hzk⟩
    exact ⟨ZoneRec.created u z, mem_createdZones.mpr ⟨rfl, hu, hz, w.toNat, (hget _).mpr ⟨w, hw, rfl⟩, hzk⟩,
      (ZoneRec.isZone_iff _ u z).mpr ⟨rfl, rfl⟩⟩

/-- A request whose operand words are a count and as many words is of the required length (R177). -/
theorem counted_length {n : Word} {ws : List Word} {base total : Nat} (h : ws.length = n.toNat) (ht : total = base + ws.length) :
    some (base + 1 * n.toNat) = some total := by
  rw [ht, h, Nat.one_mul]

/-- Settles O18: the checks in their order, and the table of the accepted configuration. -/
theorem configureCreatesTheZoneTable : Obligations.ConfigureCreatesTheZoneTable := by
  intro s f n ks hfree hf hlen
  have htaken : Taken .configure f (n :: ks) s :=
    hf.taken hfree (counted_length hlen (by rw [List.length_cons, Nat.add_comm])) rfl nofun (by decide)
  refine ⟨fun hd => htaken.exec_refused nofun ?_, fun hd hbad => htaken.exec_refused nofun ?_, fun hd hn hn' hks => ?_⟩
  · exact (configureBody_eq n ks s).trans (if_pos hd)
  · refine (configureBody_eq n ks s).trans ((if_neg (not_not.mpr hd)).trans ?_)
    rcases or_assoc.mpr hbad with h | h
    · exact if_pos h
    · rw [if_pos ((any_outOfRange_iff ks).mpr h), ite_self]
  · refine ⟨s.configured (ks.map BitVec.toNat), htaken.exec_plain (by decide) ?_, rfl, configured_zones s ks⟩
    have hany : ¬ (ks.map BitVec.toNat).any (fun k => k < 12 || 36 < k) = true := by
      rw [any_outOfRange_iff]
      rintro ⟨k, hk, h⟩
      have := hks k hk
      omega
    exact (configureBody_eq n ks s).trans
      ((if_neg (not_not.mpr hd)).trans ((if_neg (by omega)).trans (if_neg hany)))

/-! ### Power-on and the reset phases -/

/-- The end of a reset in the words of the statements. -/
theorem endReset_eq (s : State) : s.endReset = resetEnds s s.press.resetPin := by
  rfl

theorem resetLeaves_toPowerOn (s : State) : ResetLeaves s s.toPowerOn := by
  refine ⟨rfl, rfl, rfl, rfl, rfl, rfl, rfl, rfl, rfl, rfl, fun u => at1_replicate 8 u [], rfl, rfl, rfl,
    fun u => at1_replicate 8 u Line.afterReset, rfl, rfl, rfl, rfl, rfl, rfl, rfl, rfl, rfl, rfl, rfl, rfl, rfl, fun p => ?_⟩
  have hport : s.toPowerOn.port p = PortCtl.afterReset := port_afterReset p
  rw [hport]
  exact ⟨rfl, rfl, rfl, rfl, rfl, rfl⟩

theorem setResetPin_of_eq {s : State} {b : Bool} (h : s.press.resetPin = b) : s.setResetPin b = s := by
  subst h
  rfl

/-- The model's filters begin as the statement says (R169). -/
theorem resume_eq (l : Level) (now : Instant) :
    l.resume now = if l.raw = l.filtered then l else { l with pending := some ⟨l.raw, now⟩ } := by
  unfold Level.resume
  split_ifs <;> rfl

/-- Settles O20: power-on, and the ends of the two intervals. -/
theorem powerOnStartsThePartUp : Obligations.PowerOnStartsThePartUp := by
  refine ⟨fun s => ⟨s.toPowerOn, rfl, resetLeaves_toPowerOn s, calAt_powerOn, getD_replicate_none 16, rfl, rfl, rfl, rfl⟩,
    fun s hphase => ⟨fun htime hpin => ?_, fun htime hpin => ?_, fun htime => ?_, ?_, ?_⟩, ?_⟩
  · change execStartUpIntervalEnd s = _
    rw [execStartUpIntervalEnd, if_pos ⟨hphase, htime⟩, if_pos hpin, endReset_eq, hpin]
  · change execStartUpIntervalEnd s = _
    rw [execStartUpIntervalEnd, if_pos ⟨hphase, htime⟩, if_neg (by rw [hpin]; decide)]
  · change execStartUpIntervalEnd s = _
    rw [execStartUpIntervalEnd, if_neg (fun h => absurd h.2 (not_le.mpr htime))]
  · change execResetLineFall s = .next (s.setResetPin false)
    rw [execResetLineFall, if_pos hphase]
    split_ifs with hpin
    · rw [setResetPin_of_eq (by simpa using hpin)]
    · rfl
  · change execResetLineRise s = .next (s.setResetPin true)
    have hheld : s.press.phase ≠ .held := by rw [hphase]; decide
    rw [execResetLineRise, if_neg hheld]
    split_ifs with hpin
    · rw [setResetPin_of_eq hpin]
    · rfl
  · intro s hphase begun
    refine ⟨fun htime => ?_, fun htime => ?_⟩
    · change execAnswerDelayEnd s = _
      rw [execAnswerDelayEnd, if_pos ⟨hphase, htime⟩, resume_eq, resume_eq, resume_eq]
    · change execAnswerDelayEnd s = _
      rw [execAnswerDelayEnd, if_neg (fun h => absurd h.2 (not_le.mpr htime))]

/-! ### The first of a list that fails -/

/-- The index of the first element that fails a check, from 1. -/
theorem firstBad_eq_some {α : Type} {bad : α → Bool} {l : List α} {i : Nat} {a : α} (ha : l[i]? = some a)
    (hbad : bad a = true) (hbefore : ∀ j < i, ∀ b, l[j]? = some b → bad b = false) : firstBad bad l = some (i + 1) := by
  induction l generalizing i with
  | nil => cases ha
  | cons x l ih =>
    cases i with
    | zero =>
      cases ha
      exact if_pos hbad
    | succ i =>
      have hx : bad x = false := hbefore 0 (Nat.succ_pos i) x rfl
      have hl := ih ha (fun j hj b hb => hbefore (j + 1) (Nat.succ_lt_succ hj) b hb)
      rw [firstBad, hx, hl]
      rfl

theorem firstBad_eq_none {α : Type} {bad : α → Bool} {l : List α} (h : ∀ (i : Nat) (a : α), l[i]? = some a → bad a = false) :
    firstBad bad l = none := by
  induction l with
  | nil => rfl
  | cons x l ih =>
    have hx : bad x = false := h 0 x rfl
    rw [firstBad, hx, ih (fun i a ha => h (i + 1) a ha)]
    rfl

theorem pairsOf_getElem? {α : Type} {l : List α} {i : Nat} {q : α × α} :
    (pairsOf l)[i]? = some q ↔ l[i]? = some q.1 ∧ l[i + 1]? = some q.2 := by
  rw [pairsOf, List.getElem?_zip_eq_some, List.getElem?_tail]

/-! ### DEFINE CURVE and DELETE CURVE -/

/-- The breakpoints a frame's words carry. -/
theorem pointsOf_flatMap (ps : List (Word × Word)) : pointsOf (ps.flatMap (fun q => [q.1, q.2])) = breakpoints ps := by
  induction ps with
  | nil => rfl
  | cons q ps ih => exact congrArg _ ih

section
variable (pts : List Breakpoint)

/-- The segment at place i ascends, its opening does not fall, and the opening of place i is at most 500 (R22 checks 6 to
8). -/
abbrev AscendsAt (i : Nat) : Prop := ∀ a b, pts[i]? = some a → pts[i + 1]? = some b → a.x < b.x
abbrev RisesAt (i : Nat) : Prop := ∀ a b, pts[i]? = some a → pts[i + 1]? = some b → a.y ≤ b.y
abbrev LowAt (i : Nat) : Prop := ∀ a, pts[i]? = some a → a.y ≤ 500

/-- The first segment that breaks a rule `ok` of neighbouring breakpoints is the one reported. -/
theorem firstBad_pairs {bad : Breakpoint × Breakpoint → Bool} {ok : Breakpoint → Breakpoint → Prop}
    (hbad : ∀ q, bad q = true ↔ ¬ ok q.1 q.2) {i : Nat}
    (hi : ¬ ∀ a b, pts[i]? = some a → pts[i + 1]? = some b → ok a b)
    (hbefore : ∀ j < i, ∀ a b, pts[j]? = some a → pts[j + 1]? = some b → ok a b) :
    firstBad bad (pairsOf pts) = some (i + 1) := by
  push Not at hi
  obtain ⟨a, b, ha, hb, hab⟩ := hi
  refine firstBad_eq_some (a := (a, b)) (pairsOf_getElem?.mpr ⟨ha, hb⟩) ((hbad _).mpr hab) fun j hj q hq => ?_
  obtain ⟨h1, h2⟩ := pairsOf_getElem?.mp hq
  rw [Bool.eq_false_iff]
  exact fun h => (hbad q).mp h (hbefore j hj _ _ h1 h2)

theorem firstBad_pairs_none {bad : Breakpoint × Breakpoint → Bool} {ok : Breakpoint → Breakpoint → Prop}
    (hbad : ∀ q, bad q = true ↔ ¬ ok q.1 q.2)
    (hall : ∀ j, ∀ a b, pts[j]? = some a → pts[j + 1]? = some b → ok a b) : firstBad bad (pairsOf pts) = none := by
  refine firstBad_eq_none fun i q hq => ?_
  obtain ⟨h1, h2⟩ := pairsOf_getElem?.mp hq
  rw [Bool.eq_false_iff]
  exact fun h => (hbad q).mp h (hall i _ _ h1 h2)

variable {pts}

theorem ascendCheck_iff (q : Breakpoint × Breakpoint) : decide (q.2.x ≤ q.1.x) = true ↔ ¬ q.1.x < q.2.x := by
  rw [decide_eq_true_eq, not_lt]

theorem riseCheck_iff (q : Breakpoint × Breakpoint) : decide (q.2.y < q.1.y) = true ↔ ¬ q.1.y ≤ q.2.y := by
  rw [decide_eq_true_eq, not_le]

/-- The checks 4 to 8 of R22, each reported with its number and index when those before it pass. -/
theorem pointsCheck_four (h : pts.head?.map Breakpoint.x ≠ some 0) : pointsCheck pts = some (4, 1) :=
  if_pos h

theorem pointsCheck_five (h4 : pts.head?.map Breakpoint.x = some 0) (h : pts.getLast?.map Breakpoint.x ≠ some 1000) :
    pointsCheck pts = some (5, pts.length) := by
  rw [pointsCheck, if_neg (not_not.mpr h4), if_pos h]

theorem pointsCheck_six (h4 : pts.head?.map Breakpoint.x = some 0) (h5 : pts.getLast?.map Breakpoint.x = some 1000) {i : Nat}
    (h : ¬ AscendsAt pts i) (hbefore : ∀ j < i, AscendsAt pts j) : pointsCheck pts = some (6, i + 2) := by
  rw [pointsCheck, if_neg (not_not.mpr h4), if_neg (not_not.mpr h5), firstBad_pairs pts ascendCheck_iff h hbefore]

theorem pointsCheck_seven (h4 : pts.head?.map Breakpoint.x = some 0) (h5 : pts.getLast?.map Breakpoint.x = some 1000)
    (h6 : ∀ j, AscendsAt pts j) {i : Nat} (h : ¬ LowAt pts i) (hbefore : ∀ j < i, LowAt pts j) :
    pointsCheck pts = some (7, i + 1) := by
  have hfirst : firstBad (fun q : Breakpoint => decide (500 < q.y)) pts = some (i + 1) := by
    obtain ⟨a, ha, hay⟩ : ∃ a, pts[i]? = some a ∧ 500 < a.y := by
      by_contra hno
      exact h fun a ha => not_lt.mp fun hay => hno ⟨a, ha, hay⟩
    exact firstBad_eq_some ha (decide_eq_true hay) fun j hj b hb => decide_eq_false (not_lt.mpr (hbefore j hj b hb))
  rw [pointsCheck, if_neg (not_not.mpr h4), if_neg (not_not.mpr h5), firstBad_pairs_none pts ascendCheck_iff h6]
  simp only [hfirst]

theorem lowCheck_none (h7 : ∀ j, LowAt pts j) : firstBad (fun q : Breakpoint => decide (500 < q.y)) pts = none :=
  firstBad_eq_none fun i a ha => decide_eq_false (not_lt.mpr (h7 i a ha))

theorem pointsCheck_eight (h4 : pts.head?.map Breakpoint.x = some 0) (h5 : pts.getLast?.map Breakpoint.x = some 1000)
    (h6 : ∀ j, AscendsAt pts j) (h7 : ∀ j, LowAt pts j) {i : Nat} (h : ¬ RisesAt pts i) (hbefore : ∀ j < i, RisesAt pts j) :
    pointsCheck pts = some (8, i + 2) := by
  rw [pointsCheck, if_neg (not_not.mpr h4), if_neg (not_not.mpr h5), firstBad_pairs_none pts ascendCheck_iff h6]
  simp only [lowCheck_none h7, firstBad_pairs pts riseCheck_iff h hbefore]

theorem pointsCheck_none (h4 : pts.head?.map Breakpoint.x = some 0) (h5 : pts.getLast?.map Breakpoint.x = some 1000)
    (h6 : ∀ j, AscendsAt pts j) (h7 : ∀ j, LowAt pts j) (h8 : ∀ j, RisesAt pts j) : pointsCheck pts = none := by
  rw [pointsCheck, if_neg (not_not.mpr h4), if_neg (not_not.mpr h5), firstBad_pairs_none pts ascendCheck_iff h6]
  simp only [lowCheck_none h7, firstBad_pairs_none pts riseCheck_iff h8]

end

theorem curveCheck_of_ranges {k fref n : Nat} {pts : List Breakpoint} (hk : k ≤ 15) (hf : 10 ≤ fref) (hf' : fref ≤ 100)
    (hn : 2 ≤ n) (hn' : n ≤ 12) : curveCheck k fref n pts = pointsCheck pts := by
  rw [curveCheck, if_neg (by omega), if_neg (by omega), if_neg (by omega)]

theorem breakpoints_length (ps : List (Word × Word)) : (breakpoints ps).length = ps.length :=
  List.length_map _

/-- DEFINE CURVE over the operands of its frame (R21 to R24). -/
theorem defineCurveBody_eq (k fref n : Word) (ps : List (Word × Word)) (s : State) :
    defineCurveBody (k :: fref :: n :: ps.flatMap (fun q => [q.1, q.2])) s =
      match curveCheck k.toNat fref.toNat n.toNat (breakpoints ps) with
      | some e => refuse s .badParam [num e.1, num e.2]
      | none =>
        if s.activeUses k.toNat ≠ 0 then refuse s .curveInUse [num (s.activeUses k.toNat)]
        else accept (s.setCurve k.toNat (some ⟨fref.toNat, breakpoints ps⟩))
          [k, flag (s.curve? k.toNat).isSome, num (s.stagedUses k.toNat)] := by
  have hk : operand (k :: fref :: n :: ps.flatMap (fun q => [q.1, q.2])) 0 = k.toNat := rfl
  have hf : operand (k :: fref :: n :: ps.flatMap (fun q => [q.1, q.2])) 1 = fref.toNat := rfl
  have hn : operand (k :: fref :: n :: ps.flatMap (fun q => [q.1, q.2])) 2 = n.toNat := rfl
  have hpts : pointsOf ((k :: fref :: n :: ps.flatMap (fun q => [q.1, q.2])).drop 3) = breakpoints ps := pointsOf_flatMap ps
  simp only [defineCurveBody, hk, hf, hn, hpts, uword_toNat]
  cases curveCheck k.toNat fref.toNat n.toNat (breakpoints ps) <;> rfl

theorem curve?_setCurve_same (s : State) {k : Nat} (c : Option Curve) (h : k ≤ 15) : (s.setCurve k c).curve? k = c := by
  rw [State.curve?_setCurve s k k c h, if_pos rfl]

theorem deleteCurveBody_eq (k : Word) (s : State) :
    deleteCurveBody [k] s =
      if 15 < k.toNat then refuse s .badParam [1, 0]
      else if s.activeUses k.toNat ≠ 0 then refuse s .curveInUse [num (s.activeUses k.toNat)]
      else accept (s.setCurve k.toNat none) [k, flag (s.curve? k.toNat).isSome, num (s.stagedUses k.toNat)] := by
  have hk : operand [k] 0 = k.toNat := rfl
  simp only [deleteCurveBody, hk, uword_toNat]
  rfl

/-- The frame of DEFINE CURVE carries its three first operands and two for each breakpoint (R177). -/
theorem flatMap_pair_length (ps : List (Word × Word)) : (ps.flatMap (fun q => [q.1, q.2])).length = 2 * ps.length := by
  induction ps with
  | nil => rfl
  | cons q ps ih => rw [List.flatMap_cons, List.length_append, ih, List.length_cons]; simp only [List.length_cons,
      List.length_nil]; omega

/-- Settles O21: the checks of R22 in order, the use of the slot by the active job, and the slot written. -/
theorem curveRequestsAreJudgedInOrder : Obligations.CurveRequestsAreJudgedInOrder := by
  intro s f p hfree hp
  refine ⟨?_, fun k hf => ?_⟩
  · intro k fref n ps hf hlen pts refused passes12 passes45 ascends rises low
    have hallowed : reqAllowed .defineCurve p = true := by rcases hp with rfl | rfl <;> rfl
    have hwords : some (3 + 2 * n.toNat) = some (k :: fref :: n :: ps.flatMap (fun q => [q.1, q.2])).length := by
      simp only [List.length_cons, flatMap_pair_length, hlen]
      exact congrArg some (by omega)
    have htaken : Taken .defineCurve f (k :: fref :: n :: ps.flatMap (fun q => [q.1, q.2])) s :=
      hf.taken hfree hwords hallowed nofun (by decide)
    have hbody := defineCurveBody_eq k fref n ps s
    have hrefused : ∀ {check index : Nat}, curveCheck k.toNat fref.toNat n.toNat pts = some (check, index) →
        refused check index := by
      intro check index h
      refine htaken.exec_refused nofun (hbody.trans ?_)
      have h' : curveCheck k.toNat fref.toNat n.toNat (breakpoints ps) = some (check, index) := h
      rw [h']
    have hchecked : passes12 → curveCheck k.toNat fref.toNat n.toNat pts = pointsCheck pts :=
      fun ⟨hk, hf, hf', hn, hn'⟩ => curveCheck_of_ranges hk hf hf' hn hn'
    refine ⟨fun hk => hrefused (if_pos hk), fun hk hfref => hrefused ?_, fun hk hf hf' hn => hrefused ?_,
      fun h12 h => hrefused ?_, fun h12 h4 h => hrefused ?_, fun i ⟨h12, h4, h5⟩ h hbefore => hrefused ?_,
      fun i ⟨h12, h4, h5⟩ h6 h hbefore => hrefused ?_, fun i ⟨h12, h4, h5⟩ h6 h7 h hbefore => hrefused ?_,
      fun ⟨h12, h4, h5⟩ hall => ?_⟩
    · rw [curveCheck, if_neg (by omega), if_pos hfref]
    · rw [curveCheck, if_neg (by omega), if_neg (by omega), if_pos hn]
    · rw [hchecked h12, pointsCheck_four h]
    · rw [hchecked h12, pointsCheck_five h4 h, ← hlen, ← breakpoints_length ps]
    · rw [hchecked h12, pointsCheck_six h4 h5 h hbefore]
    · rw [hchecked h12, pointsCheck_seven h4 h5 h6 h hbefore]
    · rw [hchecked h12, pointsCheck_eight h4 h5 h6 h7 h hbefore]
    · have hnone : curveCheck k.toNat fref.toNat n.toNat (breakpoints ps) = none :=
        (hchecked h12).trans (pointsCheck_none h4 h5 (fun j => (hall j).1) (fun j => (hall j).2.1) (fun j => (hall j).2.2))
      rw [hnone] at hbody
      have ⟨hk, _⟩ := h12
      refine ⟨fun huse => htaken.exec_refused nofun (hbody.trans (if_pos huse)), fun hfreeSlot => ?_⟩
      rw [show Instr.defineCurve f = command .defineCurve f from rfl,
        htaken.exec (hbody.trans (if_neg (not_not.mpr hfreeSlot)))]
      have hwrote : (s.setCurve k.toNat (some ⟨fref.toNat, pts⟩)).curve? k.toNat = some ⟨fref.toNat, pts⟩ :=
        curve?_setCurve_same s _ hk
      exact congrArg (fun c => Host.Outcome.next (answersWith (some (TableWrite.curve k.toNat c)) f 24 .ok _ _)) hwrote
  · have hallowed : reqAllowed .deleteCurve p = true := by rcases hp with rfl | rfl <;> rfl
    have htaken : Taken .deleteCurve f [k] s := hf.taken hfree rfl hallowed nofun (by decide)
    have hbody := deleteCurveBody_eq k s
    refine ⟨fun hk => htaken.exec_refused nofun (hbody.trans (if_pos hk)), fun hk huse =>
      htaken.exec_refused nofun (hbody.trans ((if_neg (by omega)).trans (if_pos huse))), fun hk hfreeSlot => ?_⟩
    rw [show Instr.deleteCurve f = command .deleteCurve f from rfl,
      htaken.exec (hbody.trans ((if_neg (by omega)).trans (if_neg (not_not.mpr hfreeSlot))))]
    exact congrArg (fun c => Host.Outcome.next (answersWith (some (TableWrite.curve k.toNat c)) f 25 .ok _ _))
      (curve?_setCurve_same s none hk)

end Sys2Proof.Claims
end

section
/-! PROOF. The staged slot's requests: BEGIN STAGE, STAGE UNIT, STAGE DATA, END STAGE and DISCARD STAGE (R33 to R42). -/

namespace Sys2Proof.Claims

open Sys2Proof.Machine Sys2Proof.Safety

/-! ### BEGIN STAGE -/

/-- A slot that is not OPEN lets BEGIN STAGE go on to its further checks (R35). -/
theorem beginStageBody_of_not_open {s : State} (h : ¬ isOpen s) (ws : List Word) :
    beginStageBody ws s =
      match beginStageCheck s (operand ws 0) (operand ws 1) ((ws.drop 2).map BitVec.toNat) with
      | some e => refuse s .badParam [uword e]
      | none =>
        accept { s with slot := .opened (openedStage s (operand ws 0) ((ws.drop 2).map BitVec.toNat)) }
          [uword (openedStage s (operand ws 0) ((ws.drop 2).map BitVec.toNat)).expected, bword (s.slot != .empty)] := by
  unfold beginStageBody
  cases hslot : s.slot with
  | opened c => exact absurd ⟨c, hslot⟩ h
  | _ => rfl

theorem beginStageBody_of_open {s : State} {c : Stage} (h : s.slot = .opened c) (ws : List Word) :
    beginStageBody ws s = refuse s .stageOpen [uword c.jobNo] := by
  rw [beginStageBody, h]

/-- Some listed unit is not configured (R35 check 4). -/
theorem any_not_configured_iff (s : State) (units : List Nat) :
    (units.any fun u => !s.unitConfigured u) = true ↔ ∃ u ∈ units, ¬ (1 ≤ u ∧ u ≤ s.nz.length) := by
  simp only [List.any_eq_true, unitConfigured_eq, Bool.not_eq_true', decide_eq_false_iff_not]

/-- Settles O22: the checks of R35 in order, and the slot opened afresh. -/
theorem beginStageOpensTheSlot : Obligations.BeginStageOpensTheSlot := by
  intro s f no m us hfree hf hlen hdevice units refused configured
  have hwords : some (2 + 1 * m.toNat) = some (no :: m :: us).length := by
    rw [List.length_cons, List.length_cons, hlen]
    exact congrArg some (by omega)
  have htaken : Taken .beginStage f (no :: m :: us) s := hf.taken hfree hwords rfl (fun _ => hdevice) (by decide)
  have hrefused : ∀ {check : Nat}, ¬ isOpen s → beginStageCheck s no.toNat m.toNat units = some check → refused check := by
    intro check hclosed h
    have h' : beginStageCheck s (operand (no :: m :: us) 0) (operand (no :: m :: us) 1)
        (((no :: m :: us).drop 2).map BitVec.toNat) = some check := h
    exact htaken.exec_refused nofun ((beginStageBody_of_not_open hclosed _).trans (by rw [h']; rfl))
  have hno : no ≠ 0 → no.toNat ≠ 0 := fun h e => h (BitVec.eq_of_toNat_eq e)
  have hbad := any_not_configured_iff s units
  have hgood : (∀ u ∈ units, configured u) → ¬ (units.any fun u => !s.unitConfigured u) = true := by
    rintro h hany
    obtain ⟨u, hu, hn⟩ := hbad.mp hany
    exact hn (h u hu)
  refine ⟨fun c hc => htaken.exec_refused nofun (beginStageBody_of_open hc _), fun hclosed h => hrefused hclosed ?_,
    fun hclosed h1 h2 => hrefused hclosed ?_, fun hclosed h1 h2 h3 h4 => hrefused hclosed ?_,
    fun hclosed h1 h2 h3 h4 h5 => hrefused hclosed ?_, fun hclosed h1 h2 h3 h4 h5 => ?_⟩
  · rw [beginStageCheck, if_pos (by rw [h]; rfl)]
  · rw [beginStageCheck, if_neg (hno h1), if_pos h2]
  · rw [beginStageCheck, if_neg (hno h1), if_neg (by omega), if_pos (hbad.mpr h4)]
  · rw [beginStageCheck, if_neg (hno h1), if_neg (by omega), if_neg (hgood h4), if_pos (by simpa using h5)]
  · refine htaken.exec_plain (by decide) ((beginStageBody_of_not_open hclosed _).trans ?_)
    have hnone : beginStageCheck s (operand (no :: m :: us) 0) (operand (no :: m :: us) 1)
        (((no :: m :: us).drop 2).map BitVec.toNat) = none := by
      change beginStageCheck s no.toNat m.toNat units = none
      rw [beginStageCheck, if_neg (hno h1), if_neg (by omega), if_neg (hgood h4), if_neg (by simpa using h5)]
    rw [hnone]
    rfl

/-! ### STAGE UNIT -/

theorem stageUnitBody_of_open {s : State} {c : Stage} (h : s.slot = .opened c) (ws : List Word) :
    stageUnitBody ws s =
      match stageUnitCheck s c (unitParamsOf ws) with
      | some e => refuse s .badParam [uword e]
      | none =>
        accept { s with slot := .opened { c with records := putRecord c.records (unitParamsOf ws) } }
          [bword (c.records.any (fun q => q.unit == (unitParamsOf ws).unit))] := by
  rw [stageUnitBody, h] <;> rfl

theorem stageUnitBody_of_not_open {s : State} (h : ¬ isOpen s) (ws : List Word) :
    stageUnitBody ws s = refuse s .noStage [] := by
  unfold stageUnitBody
  cases hslot : s.slot with
  | opened c => exact absurd ⟨c, hslot⟩ h
  | _ => rfl

/-- Replacing a record in its place. -/
theorem putRecord_of_mem {l : List UnitParams} {p : UnitParams} (h : ∃ q ∈ l, q.unit = p.unit) :
    l.any (fun q => q.unit == p.unit) = true ∧ putRecord l p = l.map (fun q => if q.unit = p.unit then p else q) := by
  have hany : l.any (fun q => q.unit == p.unit) = true := by simpa using h
  refine ⟨hany, ?_⟩
  rw [putRecord, if_pos hany]
  simp only [beq_iff_eq]

/-- Adding a record of a unit that had none. -/
theorem putRecord_of_not_mem {l : List UnitParams} {p : UnitParams} (h : ∀ q ∈ l, q.unit ≠ p.unit) :
    l.any (fun q => q.unit == p.unit) = false ∧ putRecord l p = l ++ [p] := by
  have hany : l.any (fun q => q.unit == p.unit) = false := by simpa using h
  refine ⟨hany, ?_⟩
  rw [putRecord, if_neg (by rw [hany]; decide)]

/-- The operands of STAGE UNIT, each with its number. -/
def StageUnitOperandOk (s : State) (c : Stage) (p : UnitParams) : Nat → Prop
  | 1 => p.unit ∈ c.units
  | 2 => p.curve ≤ 15
  | 3 => 10 ≤ p.sweep ∧ p.sweep ≤ 100
  | 4 => p.s1 ≤ 16
  | 5 => p.s2 ≤ 8
  | 6 => 1 ≤ p.first ∧ p.first ≤ s.zonesOf p.unit
  | 7 => p.first ≤ p.last ∧ p.last ≤ s.zonesOf p.unit
  | _ => True

theorem listed_iff {c : Stage} {p : UnitParams} : (!c.units.contains p.unit) = true ↔ p.unit ∉ c.units := by
  simp

/-- The first operand out of its range is the one STAGE UNIT reports (R37). -/
theorem stageUnitCheck_eq_some {s : State} {c : Stage} {p : UnitParams} {i : Nat} (h1 : 1 ≤ i) (h7 : i ≤ 7)
    (hbad : ¬ StageUnitOperandOk s c p i) (hbefore : ∀ j, 1 ≤ j → j < i → StageUnitOperandOk s c p j) :
    stageUnitCheck s c p = some i := by
  have hunit : 1 < i → p.unit ∈ c.units := hbefore 1 le_rfl
  have hcurve : 2 < i → p.curve ≤ 15 := hbefore 2 (by omega)
  have hsweep : 3 < i → 10 ≤ p.sweep ∧ p.sweep ≤ 100 := hbefore 3 (by omega)
  have hs1 : 4 < i → p.s1 ≤ 16 := hbefore 4 (by omega)
  have hs2 : 5 < i → p.s2 ≤ 8 := hbefore 5 (by omega)
  have hfirst : 6 < i → 1 ≤ p.first ∧ p.first ≤ s.zonesOf p.unit := hbefore 6 (by omega)
  simp only [stageUnitCheck, listed_iff]
  interval_cases i <;> simp only [StageUnitOperandOk] at hbad <;> split_ifs <;> grind

theorem stageUnitCheck_eq_none {s : State} {c : Stage} {p : UnitParams}
    (h : ∀ i, 1 ≤ i → i ≤ 7 → StageUnitOperandOk s c p i) : stageUnitCheck s c p = none := by
  have hunit : p.unit ∈ c.units := h 1 (by omega) (by omega)
  have hcurve : p.curve ≤ 15 := h 2 (by omega) (by omega)
  have hsweep : 10 ≤ p.sweep ∧ p.sweep ≤ 100 := h 3 (by omega) (by omega)
  have hs1 : p.s1 ≤ 16 := h 4 (by omega) (by omega)
  have hs2 : p.s2 ≤ 8 := h 5 (by omega) (by omega)
  have hfirst : 1 ≤ p.first ∧ p.first ≤ s.zonesOf p.unit := h 6 (by omega) (by omega)
  have hlast : p.first ≤ p.last ∧ p.last ≤ s.zonesOf p.unit := h 7 (by omega) (by omega)
  simp only [stageUnitCheck, listed_iff]
  rw [if_neg (not_not.mpr hunit), if_neg (by omega), if_neg (by omega), if_neg (by omega), if_neg (by omega),
    if_neg (by omega), if_neg (by omega)]

/-- Settles O23: the operands in order, and the unit's record replaced in its place or added. -/
theorem stageUnitRecordsTheParameters : Obligations.StageUnitRecordsTheParameters := by
  intro s f u k sweep s1 s2 first last hfree hf hdevice
  have htaken : Taken .stageUnit f [u, k, sweep, s1, s2, first, last] s :=
    hf.taken hfree rfl rfl (fun _ => hdevice) (by decide)
  refine ⟨fun h => htaken.exec_refused nofun (stageUnitBody_of_not_open h _), ?_⟩
  intro c hc refused nz p ok
  have hbody := stageUnitBody_of_open hc [u, k, sweep, s1, s2, first, last]
  have hp : unitParamsOf [u, k, sweep, s1, s2, first, last] = p := rfl
  rw [hp] at hbody
  have hok : ∀ i, ok i ↔ StageUnitOperandOk s c p i := by
    intro i
    obtain h | h : i ≤ 7 ∨ 7 < i := by omega
    · interval_cases i <;> exact Iff.rfl
    · obtain ⟨j, rfl⟩ : ∃ j, i = j + 8 := ⟨i - 8, by omega⟩
      exact Iff.rfl
  simp only [hok]
  refine ⟨fun i h1 h7 hbad hbefore => ?_, fun hall => ?_⟩
  · rw [stageUnitCheck_eq_some h1 h7 hbad hbefore] at hbody
    exact htaken.exec_refused nofun hbody
  · rw [stageUnitCheck_eq_none hall] at hbody
    refine ⟨fun h => ?_, fun h => ?_⟩
    · obtain ⟨hany, hput⟩ := putRecord_of_mem (p := p) h
      rw [hany, hput] at hbody
      exact htaken.exec_plain (by decide) hbody
    · obtain ⟨hany, hput⟩ := putRecord_of_not_mem (p := p) h
      rw [hany, hput] at hbody
      exact htaken.exec_plain (by decide) hbody

/-! ### STAGE DATA -/

/-- The stage with a run of words appended (R39). -/
theorem append_map_toNat (c : Stage) (ws : List Word) :
    c.append (ws.map BitVec.toNat) =
      { c with
        stream := c.stream ++ ws.map (fun w => min w.toNat 1000)
        clamped := c.clamped + ws.countP (fun w => 1000 < w.toNat) } := by
  rw [Stage.append, List.map_map, List.countP_map]
  rfl

/-- The stream after the values are appended (R39). -/
theorem append_stream_length (c : Stage) (vs : List Nat) : (c.append vs).stream.length = c.stream.length + vs.length := by
  rw [Stage.append, List.length_append, List.length_map]

theorem stageDataBody_of_not_open {s : State} (h : ¬ isOpen s) (ws : List Word) :
    stageDataBody ws s = refuse s .noStage [] := by
  unfold stageDataBody
  cases hslot : s.slot with
  | opened c => exact absurd ⟨c, hslot⟩ h
  | _ => rfl

/-- STAGE_FAILED is posted to the Job Port (R184). -/
theorem post_stageFailed (s : State) :
    s.post .stageFailed = s.modPort .job (fun q => { q with notices := q.notices ||| 2 }) := by
  rfl

/-- STAGE_DONE is posted to the Job and the Console Port (R184). -/
theorem post_stageDone (s : State) :
    s.post .stageDone =
      (s.modPort .job (fun q => { q with notices := q.notices ||| 1 })).modPort .console
        (fun q => { q with notices := q.notices ||| 1 }) := by
  rfl

/-- STAGE DATA at an OPEN slot (R39, R40). -/
theorem stageDataBody_of_open {s : State} {c : Stage} (h : s.slot = .opened c) (n : Word) (ws : List Word) :
    stageDataBody (n :: ws) s =
      if n.toNat < 1 ∨ 64 < n.toNat then refuse s .badParam []
      else if n.toNat ≤ c.expected - c.stream.length then
        accept { s with slot := .opened (c.append (ws.map BitVec.toNat)) }
          [uword (c.append (ws.map BitVec.toNat)).stream.length, uword (ws.countP (fun w => 1000 < w.toNat)),
            uword (c.expected - c.stream.length - n.toNat)]
      else
        (({ s with
            slot := .failed (c.append ((ws.take (c.expected - c.stream.length)).map BitVec.toNat)) .oversize }).post
            .stageFailed,
          ⟨.badParam, [uword (c.expected - c.stream.length),
            uword ((ws.take (c.expected - c.stream.length)).countP (fun w => 1000 < w.toNat)),
            uword (n.toNat - (c.expected - c.stream.length))]⟩) := by
  have hcount : ∀ l : List Word, (l.map BitVec.toNat).countP (fun v => 1000 < v) = l.countP (fun w => 1000 < w.toNat) :=
    fun l => List.countP_map
  unfold stageDataBody
  rw [h]
  dsimp only [List.drop_succ_cons, List.drop_zero]
  rw [← List.map_take, hcount, hcount]
  rfl

/-- Settles O24: the run judged, appended or cut at the end of the stream. -/
theorem stageDataFillsTheStream : Obligations.StageDataFillsTheStream := by
  intro s f n ws hfree hf hlen hdevice
  have hwords : some (1 + 1 * n.toNat) = some (n :: ws).length := by
    rw [List.length_cons, hlen]
    exact congrArg some (by omega)
  have htaken : Taken .stageData f (n :: ws) s := hf.taken hfree hwords rfl (fun _ => hdevice) (by decide)
  refine ⟨fun h => htaken.exec_refused nofun (stageDataBody_of_not_open h _), ?_⟩
  intro c hc hfits left stored
  have hbody := stageDataBody_of_open hc n ws
  refine ⟨fun h => ?_, fun h1 h2 h3 => ?_, fun h1 h2 h3 => ?_⟩
  · exact htaken.exec_refused nofun (hbody.trans (if_pos h))
  · refine htaken.exec_plain (by decide) (hbody.trans ((if_neg (by omega)).trans ((if_pos h3).trans ?_)))
    rw [append_stream_length, List.length_map, hlen, append_map_toNat]
    rfl
  · refine htaken.exec_plain (by decide) (hbody.trans ((if_neg (by omega)).trans ((if_neg (not_le.mpr h3)).trans ?_)))
    rw [post_stageFailed, append_map_toNat]
    rfl

/-! ### END STAGE and DISCARD STAGE -/

theorem endStageBody_of_open {s : State} {c : Stage} (h : s.slot = .opened c) (ws : List Word) :
    endStageBody ws s =
      accept (({ s with slot := c.closed }).post (closeNotice c.closed))
        [uword (slotCode c.closed), uword (closeCause c.closed), uword c.stream.length, uword c.missing] := by
  rw [endStageBody, h]

theorem endStageBody_of_not_open {s : State} (h : ¬ isOpen s) (ws : List Word) :
    endStageBody ws s = refuse s .noStage [] := by
  unfold endStageBody
  cases hslot : s.slot with
  | opened c => exact absurd ⟨c, hslot⟩ h
  | _ => rfl

/-- The listed units without a record (R41). -/
theorem missing_eq (c : Stage) : c.missing = c.units.countP (fun u => c.records.all (fun q => q.unit != u)) := by
  rw [Stage.missing]
  refine congrFun (congrArg List.countP (funext fun u => ?_)) _
  rw [List.not_any_eq_all_not]
  rfl

/-- The slot END STAGE leaves is by the first case of R41 that applies. -/
theorem closed_of_short {c : Stage} (h : c.stream.length < c.expected) : c.closed = .failed c .short :=
  if_pos h
theorem closed_of_incomplete {c : Stage} (h : c.expected ≤ c.stream.length) (hm : c.missing ≠ 0) :
    c.closed = .failed c .incomplete :=
  (if_neg (not_lt.mpr h)).trans (if_pos hm)
theorem closed_of_complete {c : Stage} (h : c.expected ≤ c.stream.length) (hm : c.missing = 0) : c.closed = .complete c :=
  (if_neg (not_lt.mpr h)).trans (if_neg (not_not.mpr hm))

/-- Settles O25: the three cases of R41 with the notices of R34, and DISCARD STAGE in every slot state. -/
theorem stageIsClosedOrDiscarded : Obligations.StageIsClosedOrDiscarded := by
  refine ⟨fun s f hfree hf hdevice => ?_, fun s f p hfree hp hf hdevice => ?_⟩
  · have htaken : Taken .endStage f [] s := hf.taken hfree rfl rfl (fun _ => hdevice) (by decide)
    refine ⟨fun h => htaken.exec_refused nofun (endStageBody_of_not_open h []), ?_⟩
    intro c hc missing failed
    have hbody := endStageBody_of_open hc []
    have hmissing : c.missing = missing := missing_eq c
    rw [hmissing] at hbody
    refine ⟨fun h => ?_, fun h hm => ?_, fun h hm => ?_⟩
    · rw [closed_of_short h] at hbody
      exact htaken.exec_plain (by decide) hbody
    · rw [closed_of_incomplete h (hmissing ▸ hm)] at hbody
      exact htaken.exec_plain (by decide) hbody
    · rw [closed_of_complete h (hmissing.trans hm), hm] at hbody
      exact htaken.exec_plain (by decide) hbody
  · have hallowed : reqAllowed .discardStage p = true := by rcases hp with rfl | rfl <;> rfl
    have htaken : Taken .discardStage f [] s := hf.taken hfree rfl hallowed (fun _ => hdevice) (by decide)
    have hjob : s.slot.jobNo = (match s.slot with
        | .empty => 0
        | .opened c | .complete c | .failed c _ => c.jobNo) := by
      cases s.slot <;> rfl
    refine htaken.exec_plain (by decide) ?_
    change discardStageBody [] s = _
    rw [discardStageBody, hjob, slotCode_eq_slotNumber]
    rfl

end Sys2Proof.Claims
end

section
/-! PROOF. HOLD, SET LIMITS, SET LOOP PARAMETERS and SUPPLY RETRY (R87 to R91, R160, R163). -/

namespace Sys2Proof.Claims

open Sys2Proof.Machine Sys2Proof.Safety

/-! ### Conditions over the whole device -/

theorem queuesEmpty_iff (s : State) : s.queuesEmpty = true ↔ ∀ q ∈ s.queues.toList, q = [] := by
  simp only [State.queuesEmpty, List.all_eq_true, List.isEmpty_iff]

theorem movingCount_eq_zero_iff (s : State) : s.movingCount = 0 ↔ ∀ r ∈ s.zones, r.state ≠ .moving := by
  rw [State.movingCount, List.countP_eq_zero]
  simp only [beq_iff_eq, ne_eq]

/-- The standby condition (R160). -/
theorem standbyCondition_iff (s : State) :
    s.standbyCondition = true ↔
      s.supply.state = .on ∧ (∀ q ∈ s.queues.toList, q = []) ∧ ∀ r ∈ s.zones, r.state ≠ .moving := by
  rw [← queuesEmpty_iff, ← movingCount_eq_zero_iff]
  simp only [State.standbyCondition, Bool.and_eq_true, beq_iff_eq, and_assoc]

/-- Every queue is empty exactly when no zone stands in one (R163). -/
theorem queuedCount_eq_zero_iff (s : State) : s.queuedCount = 0 ↔ s.queuesEmpty = true := by
  rw [queuesEmpty_iff, State.queuedCount, List.sum_eq_zero_iff]
  simp only [List.mem_map, forall_exists_index, and_imp, forall_apply_eq_imp_iff₂, List.length_eq_zero_iff]

/-! ### SET LIMITS and SET LOOP PARAMETERS -/

/-- The operands of SET LIMITS, each with its number (R88). -/
def LimitOk (l : Limits) : Nat → Prop
  | 1 => 1 ≤ l.budget ∧ l.budget ≤ 24
  | 2 => 1 ≤ l.tolerance ∧ l.tolerance ≤ 20
  | 3 => 20 ≤ l.pollMs ∧ l.pollMs ≤ 500 ∧ l.pollMs % 10 = 0
  | 4 => 1 ≤ l.moveLimitS ∧ l.moveLimitS ≤ 30
  | 5 => l.standbyS ≤ 255
  | _ => True

theorem limitsCheck_eq_some {l : Limits} {i : Nat} (h1 : 1 ≤ i) (h5 : i ≤ 5) (hbad : ¬ LimitOk l i)
    (hbefore : ∀ j, 1 ≤ j → j < i → LimitOk l j) : limitsCheck l = some i := by
  have hbudget : 1 < i → 1 ≤ l.budget ∧ l.budget ≤ 24 := hbefore 1 le_rfl
  have htolerance : 2 < i → 1 ≤ l.tolerance ∧ l.tolerance ≤ 20 := hbefore 2 (by omega)
  have hpoll : 3 < i → 20 ≤ l.pollMs ∧ l.pollMs ≤ 500 ∧ l.pollMs % 10 = 0 := hbefore 3 (by omega)
  have hmove : 4 < i → 1 ≤ l.moveLimitS ∧ l.moveLimitS ≤ 30 := hbefore 4 (by omega)
  rw [limitsCheck]
  interval_cases i <;> simp only [LimitOk] at hbad <;> split_ifs <;> grind

theorem limitsCheck_eq_none {l : Limits} (h : ∀ i, 1 ≤ i → i ≤ 5 → LimitOk l i) : limitsCheck l = none := by
  have hbudget : 1 ≤ l.budget ∧ l.budget ≤ 24 := h 1 (by omega) (by omega)
  have htolerance : 1 ≤ l.tolerance ∧ l.tolerance ≤ 20 := h 2 (by omega) (by omega)
  have hpoll : 20 ≤ l.pollMs ∧ l.pollMs ≤ 500 ∧ l.pollMs % 10 = 0 := h 3 (by omega) (by omega)
  have hmove : 1 ≤ l.moveLimitS ∧ l.moveLimitS ≤ 30 := h 4 (by omega) (by omega)
  have hstandby : l.standbyS ≤ 255 := h 5 (by omega) (by omega)
  rw [limitsCheck, if_neg (by omega), if_neg (by omega), if_neg (by omega), if_neg (by omega), if_neg (by omega)]

/-- The operands of SET LOOP PARAMETERS, each with its number (R90, R91). -/
def LoopParamOk (l : LoopParams) : Nat → Prop
  | 1 => l.deadBand ≤ 100
  | 2 => l.gain ≤ 40
  | 3 => 1 ≤ l.stepLimit ∧ l.stepLimit ≤ 30
  | 4 => l.settleSheets ≤ 255
  | _ => True

theorem loopParamsCheck_eq_some {l : LoopParams} {i : Nat} (h1 : 1 ≤ i) (h4 : i ≤ 4) (hbad : ¬ LoopParamOk l i)
    (hbefore : ∀ j, 1 ≤ j → j < i → LoopParamOk l j) : loopParamsCheck l = some i := by
  have hband : 1 < i → l.deadBand ≤ 100 := hbefore 1 le_rfl
  have hgain : 2 < i → l.gain ≤ 40 := hbefore 2 (by omega)
  have hstep : 3 < i → 1 ≤ l.stepLimit ∧ l.stepLimit ≤ 30 := hbefore 3 (by omega)
  rw [loopParamsCheck]
  interval_cases i <;> simp only [LoopParamOk] at hbad <;> split_ifs <;> grind

theorem loopParamsCheck_eq_none {l : LoopParams} (h : ∀ i, 1 ≤ i → i ≤ 4 → LoopParamOk l i) : loopParamsCheck l = none := by
  have hband : l.deadBand ≤ 100 := h 1 (by omega) (by omega)
  have hgain : l.gain ≤ 40 := h 2 (by omega) (by omega)
  have hstep : 1 ≤ l.stepLimit ∧ l.stepLimit ≤ 30 := h 3 (by omega) (by omega)
  have hsettle : l.settleSheets ≤ 255 := h 4 (by omega) (by omega)
  rw [loopParamsCheck, if_neg (by omega), if_neg (by omega), if_neg (by omega), if_neg (by omega)]

/-- SET LIMITS over the five limits of its frame (R88, R89). -/
theorem setLimitsBody_eq (b tol poll move standby : Word) (s : State) :
    setLimitsBody [b, tol, poll, move, standby] s =
      match limitsCheck ⟨b.toNat, tol.toNat, poll.toNat, move.toNat, standby.toNat⟩ with
      | some i => refuse s .badParam [num i]
      | none => accept { s with
          limits := ⟨b.toNat, tol.toNat, poll.toNat, move.toNat, standby.toNat⟩
          supply := { s.supply with standby := s.standbyAtLimits standby.toNat } } (limitsWords s.limits) := by
  rfl

/-- A running standby timer starts again with the new time, or stops at 0 (R89). -/
theorem standbyAtLimits_of_running {s : State} (h : s.supply.standby.isSome) (n : Nat) :
    s.standbyAtLimits n = if n = 0 then none else some ⟨s.clock.now.ms, n * 1000⟩ := by
  obtain ⟨b, hb⟩ := Option.isSome_iff_exists.mp h
  rw [State.standbyAtLimits, hb]

/-- A stopped one starts where the old time of 0 alone had stopped it (R160). -/
theorem standbyAtLimits_of_stopped {s : State} (h : s.supply.standby = none) (n : Nat) :
    s.standbyAtLimits n =
      if s.limits.standbyS = 0 ∧ s.standbyCondition = true then (if n = 0 then none else some ⟨s.clock.now.ms, n * 1000⟩)
      else none := by
  rw [State.standbyAtLimits, h]
  simp only [Bool.and_eq_true, decide_eq_true_eq]

theorem toNat_eq_zero_iff (w : Word) : w.toNat = 0 ↔ w = 0 :=
  ⟨fun h => BitVec.eq_of_toNat_eq h, fun h => by rw [h]; rfl⟩

/-- SET LOOP PARAMETERS over the four parameters of its frame (R91). -/
theorem setLoopParametersBody_eq (band gain step settle : Word) (s : State) :
    setLoopParametersBody [band, gain, step, settle] s =
      match loopParamsCheck ⟨band.toNat, gain.toNat, step.toNat, settle.toNat⟩ with
      | some i => refuse s .badParam [num i]
      | none => accept { s with loop := ⟨band.toNat, gain.toNat, step.toNat, settle.toNat⟩ } (loopParamsWords s.loop) := by
  rfl

/-- Settles O38: HOLD written and reported, and the two parameter requests with their operands in order. -/
theorem holdAndParametersAreSet : Obligations.HoldAndParametersAreSet := by
  intro s hfree
  refine ⟨fun f hf hdevice => ?_, ?_, ?_⟩
  · have hhold : Taken .holdKeys f [] s := hf.taken hfree rfl rfl (fun _ => hdevice) (by decide)
    have hresume : Taken .resumeKeys f [] s := hf.taken hfree rfl rfl (fun _ => hdevice) (by decide)
    exact ⟨hhold.exec_plain (by decide) rfl, hresume.exec_plain (by decide) rfl⟩
  · intro f b tol poll move standby hf ok fresh starts after accepted
    have htaken : Taken .setLimits f [b, tol, poll, move, standby] s := hf.taken hfree rfl rfl nofun (by decide)
    have hbody := setLimitsBody_eq b tol poll move standby s
    have hok : ∀ i, ok i ↔ LimitOk ⟨b.toNat, tol.toNat, poll.toNat, move.toNat, standby.toNat⟩ i := by
      intro i
      obtain h | ⟨j, rfl⟩ : i ≤ 5 ∨ ∃ j, i = j + 6 := by
        by_cases h : i ≤ 5
        · exact .inl h
        · exact .inr ⟨i - 6, by omega⟩
      · interval_cases i <;> exact Iff.rfl
      · exact Iff.rfl
    simp only [hok]
    refine ⟨fun i h1 h5 hbad hbefore => ?_, fun hall => ?_⟩
    · rw [limitsCheck_eq_some h1 h5 hbad hbefore] at hbody
      exact htaken.exec_refused nofun hbody
    · rw [limitsCheck_eq_none hall] at hbody
      have haccepted : ∀ timer, s.standbyAtLimits standby.toNat = timer → accepted timer := by
        rintro timer rfl
        exact htaken.exec_plain (by decide) hbody
      have hcondition := standbyCondition_iff s
      refine ⟨fun h => haccepted _ ?_, fun h hstarts => haccepted _ ?_, fun h hstarts => haccepted _ ?_⟩
      · rw [standbyAtLimits_of_running h]
        simp only [toNat_eq_zero_iff]
        rfl
      · rw [standbyAtLimits_of_stopped h, if_pos ⟨hstarts.1, hcondition.mpr hstarts.2⟩]
        simp only [toNat_eq_zero_iff]
        rfl
      · rw [standbyAtLimits_of_stopped h, if_neg (fun e => hstarts ⟨e.1, hcondition.mp e.2⟩)]
  · intro f band gain step settle hf ok
    have htaken : Taken .setLoopParameters f [band, gain, step, settle] s := hf.taken hfree rfl rfl nofun (by decide)
    have hbody := setLoopParametersBody_eq band gain step settle s
    have hok : ∀ i, ok i ↔ LoopParamOk ⟨band.toNat, gain.toNat, step.toNat, settle.toNat⟩ i := by
      intro i
      obtain h | ⟨j, rfl⟩ : i ≤ 4 ∨ ∃ j, i = j + 5 := by
        by_cases h : i ≤ 4
        · exact .inl h
        · exact .inr ⟨i - 5, by omega⟩
      · interval_cases i <;> exact Iff.rfl
      · exact Iff.rfl
    simp only [hok]
    refine ⟨fun i h1 h4 hbad hbefore => ?_, fun hall => ?_⟩
    · rw [loopParamsCheck_eq_some h1 h4 hbad hbefore] at hbody
      exact htaken.exec_refused nofun hbody
    · rw [loopParamsCheck_eq_none hall] at hbody
      exact htaken.exec_plain (by decide) hbody

/-! ### SUPPLY RETRY -/

/-- The supply after a retry (R163). -/
theorem retrySupply_eq (s : State) :
    s.retrySupply =
      if s.queuedCount = 0 then { s with supply := { s.supply with state := .off } }
      else if s.supply.ok.filtered then { s with supply := { s.supply with state := .on, warmUp := none } }
      else { s with supply := { s.supply with state := .warming, warmUp := some s.clock.now.ms } } := by
  rw [State.retrySupply, State.startWarmUp]
  have h : ({ s with supply := { s.supply with state := .off } } : State).queuesEmpty = s.queuesEmpty := rfl
  simp only [h, queuedCount_eq_zero_iff]

theorem supplyRetryBody_of_failed {s : State} (h : s.supply.state = .failed) (ws : List Word) :
    supplyRetryBody ws s = accept s.retrySupply [uword (supplyCode s.retrySupply.supply.state), uword s.queuedCount] := by
  rw [supplyRetryBody, h]

theorem supplyRetryBody_of_not_failed {s : State} (h : s.supply.state ≠ .failed) (ws : List Word) :
    supplyRetryBody ws s = refuse s .wrongState [num (supplyNumber s.supply.state)] := by
  rw [supplyRetryBody, ← supplyCode_eq_supplyNumber]
  cases hk : s.supply.state with
  | failed => exact absurd hk h
  | _ => rfl

/-- Settles O39: a retry outside FAILED is refused, and in FAILED the queues and the filtered level decide. -/
theorem supplyRetryLeavesFailed : Obligations.SupplyRetryLeavesFailed := by
  intro s f hfree hf hdevice waiting becomes
  have htaken : Taken .supplyRetry f [] s := hf.taken hfree rfl rfl (fun _ => hdevice) (by decide)
  refine ⟨fun h => htaken.exec_refused nofun (supplyRetryBody_of_not_failed h []), fun h hwarm => ?_⟩
  have hbecomes : ∀ k w, s.retrySupply = { s with supply := { s.supply with state := k, warmUp := w } } → becomes k w := by
    intro k w hk
    refine htaken.exec_plain (by decide) ((supplyRetryBody_of_failed h []).trans ?_)
    rw [hk, ← supplyCode_eq_supplyNumber]
    rfl
  have hretry := retrySupply_eq s
  refine ⟨fun hw => hbecomes _ _ ?_, fun hw hok => hbecomes _ _ ?_, fun hw hok => hbecomes _ _ ?_⟩
  · refine hretry.trans ((if_pos hw).trans ?_)
    rw [← hwarm]
  · exact hretry.trans ((if_neg hw).trans (if_pos hok))
  · exact hretry.trans ((if_neg hw).trans (if_neg (by rw [hok]; decide)))

end Sys2Proof.Claims
end

section
/-! PROOF. The SHEET counter and the level filters (R158, R167, R169), and the request frame of a key line (R133). -/

namespace Sys2Proof.Claims

open Sys2Proof.Machine Sys2Proof.Safety

/-! ### SHEET -/

/-- A SHEET edge (R167, log 23). -/
theorem exec_sheetEdge (level : Bool) (s : State) :
    exec (.sheetEdge level) s =
      if s.press.sheetPin = level then .next s
      else if level && s.isRunning then .next ({ s with press := { s.press with sheetPin := level } } : State).risingSheet
      else .next { s with press := { s.press with sheetPin := level } } := by
  rfl

/-- A rising edge while RUNNING is judged by its spacing (R167). -/
theorem exec_sheetEdge_rising {s : State} (hpin : s.press.sheetPin = false) (hrun : s.press.phase = .running) :
    exec (.sheetEdge true) s = .next ({ s with press := { s.press with sheetPin := true } } : State).risingSheet := by
  rw [exec_sheetEdge, if_neg (by rw [hpin]; decide), if_pos (by rw [s.isRunning_iff.mpr hrun]; rfl)]

/-- A rising edge that counts, and one that does not. -/
theorem risingSheet_of_counts {s : State} (h : s.sheetCounts = true) :
    s.risingSheet =
      { s with press := { s.press with sheets := s.press.sheets + 1, lastEdge := some s.clock.now } } :=
  if_pos h
theorem risingSheet_of_ignored {s : State} (h : s.sheetCounts = false) : s.risingSheet = s :=
  if_neg (by rw [h]; decide)

/-- The first edge counts, and a later one by the time since the last that counted (R167). -/
theorem sheetCounts_of_first {s : State} (h : s.press.lastEdge = none) : s.sheetCounts = true := by
  rw [State.sheetCounts, h]
theorem sheetCounts_of_later {s : State} {last : Instant} (h : s.press.lastEdge = some last) :
    s.sheetCounts = decide (5000 ≤ elapsedUs s.clock.now last) := by
  rw [State.sheetCounts, h]
  rfl

/-- Settles O51: rising edges while RUNNING by their spacing, every other edge by its pin alone. -/
theorem sheetEdgesAreSpaced : Obligations.SheetEdgesAreSpaced := by
  intro s counted ignored
  refine ⟨fun hpin hrun => ⟨fun hlast => ?_, fun last hlast => ⟨fun h => ?_, fun h => ?_⟩⟩, fun hpin hrun => ?_,
    fun hpin => ?_, ?_, fun now last => rfl⟩
  · rw [exec_sheetEdge_rising hpin hrun]
    exact congrArg _ (risingSheet_of_counts (sheetCounts_of_first hlast))
  · rw [exec_sheetEdge_rising hpin hrun]
    exact congrArg _ (risingSheet_of_counts ((sheetCounts_of_later hlast).trans (decide_eq_true h)))
  · rw [exec_sheetEdge_rising hpin hrun]
    exact congrArg _ (risingSheet_of_ignored ((sheetCounts_of_later hlast).trans (decide_eq_false (not_le.mpr h))))
  · have hnot : ¬ (true && s.isRunning) = true := fun h => hrun (s.isRunning_iff.mp h)
    rw [exec_sheetEdge, if_neg (by rw [hpin]; decide), if_neg hnot]
  · rw [exec_sheetEdge, if_neg (by rw [hpin]; decide)]
    rfl
  · rw [exec_sheetEdge, if_pos rfl]

/-! ### The level filters -/

/-- A raw change while the filter runs (R169). -/
theorem rawChange_eq (s : State) (l : Level) (level : Bool) : l.rawChange level s.clock.now = rawTaken s l level := by
  unfold Level.rawChange rawTaken
  split_ifs <;> rfl

/-- A pending change that has stood 1 ms is taken, and gives the level of the statements (R169). -/
theorem due_of_changeDue {s : State} {l : Level} {level : Bool} (h : changeDue s l level) :
    l.due s.clock.now = true ∧ l.take = levelAfter l level := by
  obtain ⟨since, hp, hs⟩ := h
  have hd : 1000 ≤ elapsedUs s.clock.now since := hs
  refine ⟨?_, ?_⟩
  · rw [Level.due, hp]
    exact decide_eq_true hd
  · rw [Level.take, hp]
    rfl

theorem not_due_of_not_changeDue {s : State} {l : Level} (h : ∀ v, ¬ changeDue s l v) : l.due s.clock.now = false := by
  unfold Level.due
  cases hp : l.pending with
  | none => rfl
  | some p => exact decide_eq_false fun hs => h p.level ⟨p.since, hp, hs⟩

/-- The expiry of a filter does nothing before its time (R169, log 5). -/
theorem not_running_or_due {s : State} {l : Level} (h : s.press.phase ≠ .running ∨ ∀ v, ¬ changeDue s l v) :
    (s.isRunning && l.due s.clock.now) = false := by
  rcases h with h | h
  · rw [Bool.eq_false_iff.mpr fun e => h (s.isRunning_iff.mp e)]
    rfl
  · rw [not_due_of_not_changeDue h, Bool.and_false]

theorem running_and_due {s : State} {l : Level} {level : Bool} (hrun : s.press.phase = .running) (h : changeDue s l level) :
    (s.isRunning && l.due s.clock.now) = true := by
  rw [s.isRunning_iff.mpr hrun, (due_of_changeDue h).1]
  rfl

/-- The expiry of a press level's filter (R169). -/
theorem exec_pressLevelFilterExpiry_due {s : State} {w : PressLevel} {level : Bool} (hrun : s.press.phase = .running)
    (h : changeDue s (s.press.level w) level) :
    exec (.pressLevelFilterExpiry w) s = .next ((s.setLevel w (levelAfter (s.press.level w) level)).levelTaken w) := by
  change execPressLevelFilterExpiry w s = _
  rw [execPressLevelFilterExpiry, if_pos (running_and_due hrun h), (due_of_changeDue h).2]

theorem exec_pressLevelFilterExpiry_not_due {s : State} {w : PressLevel}
    (h : s.press.phase ≠ .running ∨ ∀ v, ¬ changeDue s (s.press.level w) v) :
    exec (.pressLevelFilterExpiry w) s = .next s := by
  change execPressLevelFilterExpiry w s = _
  rw [execPressLevelFilterExpiry, if_neg (by rw [not_running_or_due h]; decide)]

/-- The expiry of the SUPPLY-OK filter (R158). -/
theorem exec_supplyOkFilterExpiry_due {s : State} {level : Bool} (hrun : s.press.phase = .running)
    (h : changeDue s s.supply.ok level) :
    exec .supplyOkFilterExpiry s = .next (s.setSupplyOk (levelAfter s.supply.ok level)).supplyOkTaken := by
  change execSupplyOkFilterExpiry s = _
  rw [execSupplyOkFilterExpiry, if_pos (running_and_due hrun h), (due_of_changeDue h).2]

theorem exec_supplyOkFilterExpiry_not_due {s : State}
    (h : s.press.phase ≠ .running ∨ ∀ v, ¬ changeDue s s.supply.ok v) : exec .supplyOkFilterExpiry s = .next s := by
  change execSupplyOkFilterExpiry s = _
  rw [execSupplyOkFilterExpiry, if_neg (by rw [not_running_or_due h]; decide)]

/-- A raw change at one of the three filters: by the filter while RUNNING, and at the pin alone otherwise (R169). -/
theorem raw_ite (s : State) (level : Bool) (l : Level) (put : Level → State) :
    (if s.isRunning = true then (.next (put (l.rawChange level s.clock.now)) : Host.Outcome State Fault Refusal)
      else .next (put (l.pinChange level))) =
      .next (put (if s.press.phase = .running then rawTaken s l level else { l with raw := level })) := by
  simp only [s.isRunning_iff, rawChange_eq]
  split_ifs <;> rfl

/-- Settles O52: raw changes, changes that have stood 1 ms, and the expiries that come too early. -/
theorem filtersHoldForOneMillisecond : Obligations.FiltersHoldForOneMillisecond := by
  intro s level raw impression freeze
  refine ⟨raw_ite s level s.press.impression (s.setLevel .impression), raw_ite s level s.press.freeze (s.setLevel .freeze),
    raw_ite s level s.supply.ok s.setSupplyOk, fun hrun h => ?_, fun h => exec_pressLevelFilterExpiry_not_due h,
    fun h => exec_pressLevelFilterExpiry_not_due h, fun h => exec_supplyOkFilterExpiry_not_due h⟩
  exact exec_pressLevelFilterExpiry_due (w := .impression) hrun h

/-! ### The request frame -/

theorem fieldBits_length {n : Nat} (x : BitVec n) : (fieldBits x).length = n := by
  rw [fieldBits, List.length_map, List.length_range]

/-- A field is driven most significant bit first (R133). -/
theorem fieldBits_getElem? {n i : Nat} (x : BitVec n) (h : i < n) : (fieldBits x)[i]? = some (x.getLsbD (n - 1 - i)) := by
  rw [fieldBits, List.getElem?_map, List.getElem?_range h]
  rfl

/-- The parity bit tells whether the number of ones is odd (R133). -/
theorem evenParity_eq (bits : List Bool) : evenParity bits = decide (bits.count true % 2 = 1) := by
  have h : ∀ (l : List Bool) (b : Bool), l.foldl xor b = xor b (decide (l.count true % 2 = 1)) := by
    intro l
    induction l with
    | nil => simp
    | cons a l ih =>
      intro b
      rw [List.foldl_cons, ih]
      rcases Nat.mod_two_eq_zero_or_one (l.count true) with h | h <;> cases a <;> cases b <;>
        simp [Nat.add_mod, h]
  rw [evenParity, h]
  exact Bool.false_xor _

/-- The bits between the start bit and the parity bit (R133). -/
def bodyBits (zone : Nat) (v : Verb) (ticks : Option (BitVec 13)) : List Bool :=
  fieldBits (BitVec.ofNat 6 zone) ++ (fieldBits (verbCode v) ++ (ticks.elim [] fieldBits))

theorem requestBits_eq (zone : Nat) (v : Verb) (ticks : Option (BitVec 13)) :
    requestBits zone v ticks = true :: (bodyBits zone v ticks ++ [evenParity (bodyBits zone v ticks), false]) := by
  cases ticks <;> rfl

theorem bodyBits_length (zone : Nat) (v : Verb) (ticks : Option (BitVec 13)) :
    (bodyBits zone v ticks).length = if ticks.isSome then 21 else 8 := by
  rw [bodyBits, List.length_append, List.length_append, fieldBits_length, fieldBits_length]
  cases ticks with
  | none => rfl
  | some t => exact congrArg (8 + ·) (fieldBits_length t)

theorem requestBits_length (zone : Nat) (v : Verb) (ticks : Option (BitVec 13)) :
    (requestBits zone v ticks).length = if ticks.isSome then 24 else 11 := by
  rw [requestBits_eq, List.length_cons, List.length_append, bodyBits_length]
  cases ticks <;> rfl

/-- The address, the verb and the target ticks in the body. -/
theorem bodyBits_address {zone i : Nat} (v : Verb) (ticks : Option (BitVec 13)) (hi : i < 6) :
    (bodyBits zone v ticks)[i]? = some (zone.testBit (5 - i)) := by
  rw [bodyBits, List.getElem?_append_left (by rw [fieldBits_length]; exact hi), fieldBits_getElem? _ hi, BitVec.getLsbD_ofNat,
    decide_eq_true (by omega : 6 - 1 - i < 6), Bool.true_and]

theorem bodyBits_verb {i : Nat} (zone : Nat) (v : Verb) (ticks : Option (BitVec 13)) (hi : i < 2) :
    (bodyBits zone v ticks)[6 + i]? = some ((verbCode v).getLsbD (1 - i)) := by
  rw [bodyBits, List.getElem?_append_right (by rw [fieldBits_length]; omega), fieldBits_length, Nat.add_sub_cancel_left,
    List.getElem?_append_left (by rw [fieldBits_length]; exact hi), fieldBits_getElem? _ hi]

theorem bodyBits_ticks {i : Nat} (zone : Nat) (v : Verb) (t : BitVec 13) (hi : i < 13) :
    (bodyBits zone v (some t))[8 + i]? = some (t.getLsbD (12 - i)) := by
  rw [bodyBits, ← List.append_assoc,
    List.getElem?_append_right (by rw [List.length_append, fieldBits_length, fieldBits_length]; omega), List.length_append,
    fieldBits_length, fieldBits_length, show 8 + i - (6 + 2) = i by omega]
  exact fieldBits_getElem? _ hi

/-- A bit of the frame after the start bit, within the body. -/
theorem requestBits_body {i : Nat} {b : Bool} {zone : Nat} {v : Verb} {ticks : Option (BitVec 13)}
    (h : (bodyBits zone v ticks)[i]? = some b) : (requestBits zone v ticks)[1 + i]? = some b := by
  have hi : i < (bodyBits zone v ticks).length := (List.getElem?_eq_some_iff.mp h).1
  rw [requestBits_eq, Nat.add_comm, List.getElem?_cons_succ, List.getElem?_append_left hi, h]

/-- The ones after the start bit are even (R133). -/
theorem requestBits_parity (zone : Nat) (v : Verb) (ticks : Option (BitVec 13)) :
    ((requestBits zone v ticks).drop 1).count true % 2 = 0 := by
  rw [requestBits_eq, List.drop_succ_cons, List.drop_zero, List.count_append, evenParity_eq]
  generalize (bodyBits zone v ticks).count true = n
  obtain h | h := Nat.mod_two_eq_zero_or_one n
  · simp [h]
  · simp [h]
    omega

/-- Settles O47: the frame of a transaction under its line's law, and the bits of a frame. -/
theorem requestFrameIsLaidOut : Obligations.RequestFrameIsLaidOut := by
  refine ⟨fun l t hl ht => ?_, ?_⟩
  · obtain ⟨-, hlaw⟩ := hl
    obtain ⟨hticks, -⟩ := hlaw t ht
    refine ⟨rfl, hticks, ?_, rfl⟩
    rw [Txn.bits, requestBits_length]
    cases hv : t.verb with
    | move => rw [if_pos (hticks.mpr hv)]
    | sense | halt => rw [if_neg (fun h => by rw [hticks, hv] at h; cases h)]
  · intro zone v ticks _ b
    refine ⟨requestBits_length zone v ticks, by rw [show b = _ from requestBits_eq zone v ticks]; rfl, ?_,
      fun i hi => requestBits_body (bodyBits_address v ticks hi), ?_, ?_, fun t ht i hi => ?_, requestBits_parity zone v ticks⟩
    · rw [show b = _ from requestBits_eq zone v ticks, List.getLast?_cons, List.getLast?_append]
      rfl
    · rw [show b[7]? = _ from requestBits_body (bodyBits_verb zone v ticks (i := 0) (by omega))]
      cases v <;> rfl
    · rw [show b[8]? = _ from requestBits_body (bodyBits_verb zone v ticks (i := 1) (by omega))]
      cases v <;> rfl
    · subst ht
      have h := requestBits_body (bodyBits_ticks zone v t hi)
      rwa [← Nat.add_assoc] at h

end Sys2Proof.Claims
end

section
/-! PROOF. The width stage and the clamp (R58, R63, R64), the conversions at the key line (R66 to R68), and the outcome of a
deviation (R96 to R100). -/

namespace Sys2Proof.Claims

open Sys2Proof.Machine Sys2Proof.Safety

/-! ### Set-point fields -/

/-- A zone of an unused unit, a closed zone, and an open zone (R58). -/
theorem setPoint_of_unused {s : State} {j : ActiveJob} {r : ZoneRec} (h : j.record? r.unit = none) :
    setPoint s j r =
      { r with coverage := none, effective := none, base := none, target := some 0, limit := false } := by
  rw [setPoint, h]

theorem setPoint_of_closed {s : State} {j : ActiveJob} {r : ZoneRec} {p : UnitParams} (h : j.record? r.unit = some p)
    (hz : r.zone < p.first ∨ p.last < r.zone) :
    setPoint s j r = { r with effective := r.coverage, base := some 0, target := some 0, limit := false } := by
  have hcloses : p.closes r.zone = true := by simpa [UnitParams.closes] using hz
  rw [setPoint, h]
  exact if_pos hcloses

theorem setPoint_of_open {s : State} {j : ActiveJob} {r : ZoneRec} {p : UnitParams} (h : j.record? r.unit = some p)
    (hfirst : p.first ≤ r.zone) (hlast : r.zone ≤ p.last) :
    setPoint s j r =
      { r with
        effective := some (openingOf s p r).1, base := some (openingOf s p r).2
        target := some (clampTarget (trimmedSum (openingOf s p r).2 r.consoleTrim r.loopTrim))
        limit := decide (trimmedSum (openingOf s p r).2 r.consoleTrim r.loopTrim < 0) ||
          decide (500 < trimmedSum (openingOf s p r).2 r.consoleTrim r.loopTrim) } := by
  have hcloses : ¬ p.closes r.zone = true := by
    simp only [UnitParams.closes, Bool.or_eq_true, decide_eq_true_eq]
    omega
  rw [setPoint, h]
  exact if_neg hcloses

theorem openingOf_of_curve {s : State} {p : UnitParams} {r : ZoneRec} {curve : Curve} (h : s.curve? p.curve = some curve) :
    (openingOf s p r).2 =
      roundHalfUp (curveOpening curve.points (openingOf s p r).1 * curve.fref) p.sweep := by
  simp only [openingOf, h]
  rfl

theorem clampTarget_eq (t : Int) : clampTarget t = if t < 0 then 0 else if 500 < t then 500 else t.toNat := by
  unfold clampTarget clampInt
  split_ifs <;> rfl

/-- A base opening lies in 0 to 5000: an opening of at most 500, at most 100 for the reference, at least 10 for the sweep
(R63). -/
theorem sweepOpening_le {b fref sweep : Nat} (hb : b ≤ 500) (hf : fref ≤ 100) (hs : 10 ≤ sweep) :
    sweepOpening b fref sweep ≤ 5000 := by
  have h1 : b * fref ≤ 500 * 100 := Nat.mul_le_mul hb hf
  have h2 : 5000 * 10 ≤ 5000 * sweep := Nat.mul_le_mul_left _ hs
  exact (roundHalfUp_between (lo := 0) (by omega) (by omega) (by omega)).2

/-- Settles O31: the three kinds of zones, and the range of a base. -/
theorem setPointFieldsByTheWidthStage : Obligations.SetPointFieldsByTheWidthStage := by
  intro s j r
  refine ⟨setPoint_of_unused, fun p hp => ⟨setPoint_of_closed hp, ?_⟩⟩
  intro c curve e hfirst hlast hcov hcurve heff b t
  have hopen := setPoint_of_open (s := s) hp hfirst hlast
  have he : (openingOf s p r).1 = e := by
    rw [hopen] at heff
    exact Option.some.inj heff
  have hb : (openingOf s p r).2 = b := by rw [openingOf_of_curve hcurve, he]
  refine ⟨?_, fun hc he hpar => ?_⟩
  · rw [hopen, he, hb, clampTarget_eq, ← Bool.decide_or]
    rfl
  · have ⟨_, hf, _⟩ := hc
    have ⟨_, hs, _⟩ := hpar
    have ⟨_, _, _, hy⟩ := curveStageInterpolates curve e hc he
    exact sweepOpening_le hy hf hs

/-! ### Roundings and conversions -/

theorem roundHalfUp_bounds (n : Nat) {d : Nat} (h : 0 < d) :
    2 * d * roundHalfUp n d ≤ 2 * n + d ∧ 2 * n + d < 2 * d * (roundHalfUp n d + 1) :=
  ⟨Nat.mul_div_le _ _, Nat.lt_mul_div_succ _ (by omega)⟩

theorem roundHalfUp_zero {d : Nat} (h : 0 < d) : roundHalfUp 0 d = 0 := by
  have := roundHalfUp_mul 0 h
  rwa [Nat.zero_mul] at this

theorem roundHalfAway_natCast (n d : Nat) : roundHalfAway n d = roundHalfUp n d :=
  if_neg (by omega)

theorem roundHalfAway_neg (n : Nat) {d : Nat} (h : 0 < d) : roundHalfAway (-n) d = -roundHalfUp n d := by
  obtain rfl | hn := Nat.eq_zero_or_pos n
  · rw [Nat.cast_zero, neg_zero, show roundHalfAway 0 d = roundHalfUp 0 d from roundHalfAway_natCast 0 d, roundHalfUp_zero h]
    rfl
  · rw [roundHalfAway, if_pos (by omega), Int.natAbs_neg, Int.natAbs_natCast]

/-- A product within half a denominator of a multiple rounds to it. -/
theorem roundHalfUp_near {n k d : Nat} (hlo : 2 * d * k ≤ 2 * n + d) (hhi : 2 * n + d < 2 * d * (k + 1)) :
    roundHalfUp n d = k :=
  Nat.div_eq_of_lt_le (by rwa [Nat.mul_comm k]) (by rwa [Nat.mul_comm (k + 1)])

/-- An echo as wide as a target's ticks converts to that target: the ticks are off by at most half a gain, far less than
half of 4096 (R66, R67). -/
theorem echoValue_targetTicks {e : CalEntry} (h : CalOk e) (t : Nat) : echoValue e (targetTicks e t) = t := by
  obtain ⟨-, -, hg, hg', -⟩ := h
  have hwidth : ((targetTicks e t : Nat) : Int) - e.zero = (roundHalfUp (t * 4096) e.gain : Nat) := by
    rw [targetTicks]
    omega
  have hbounds := roundHalfUp_bounds (t * 4096) (d := e.gain) (by omega)
  rw [echoValue, hwidth, ← Nat.cast_mul, roundHalfAway_natCast, Nat.cast_inj]
  generalize roundHalfUp (t * 4096) e.gain = m at hbounds
  have h1 : 2 * e.gain * m = 2 * (m * e.gain) := by ring
  have h2 : 2 * e.gain * (m + 1) = 2 * (m * e.gain) + 2 * e.gain := by ring
  exact roundHalfUp_near (by omega) (by omega)

theorem plausiblePosition_eq (q : Int) :
    plausiblePosition q =
      if q < -20 ∨ 520 < q then none else some (if q < 0 then 0 else if 500 < q then 500 else q.toNat) := by
  unfold plausiblePosition clampInt
  split_ifs <;> grind

/-- Settles O32: the two roundings, the target ticks and the reading of an echo. -/
theorem conversionsAreInverse : Obligations.ConversionsAreInverse := by
  refine ⟨fun n d h => roundHalfUp_bounds n h, fun n d h => ⟨roundHalfAway_natCast n d, roundHalfAway_neg n h⟩,
    fun e t he ht => ?_, fun e w => rfl, plausiblePosition_eq⟩
  have ⟨_, _, hg, _, hlargest⟩ := he
  have hmono := roundHalfUp_mono e.gain (Nat.mul_le_mul_right 4096 ht)
  refine ⟨rfl, Nat.le_add_right _ _, (Nat.add_le_add_left hmono _).trans hlargest, ?_, ?_⟩
  · rw [targetTicks, Nat.zero_mul, roundHalfUp_zero (by omega), Nat.add_zero]
  · rw [echoValue_targetTicks he, plausiblePosition_eq, if_neg (by omega), if_neg (by omega), if_neg (by omega),
      Int.toNat_natCast]

/-! ### The outcome of a deviation -/

theorem closes_iff {p : UnitParams} {z : Nat} : p.closes z = true ↔ z < p.first ∨ p.last < z := by
  simp only [UnitParams.closes, Bool.or_eq_true, decide_eq_true_eq]

theorem isStale_iff {n : Nat} {sheet stamp : BitVec 32} {r : ZoneRec} (h : r.settleStamp = some stamp) :
    isStale n sheet r = true ↔ (sheet - stamp).toNat < n ∨ 2 ^ 31 ≤ (sheet - stamp).toNat := by
  rw [isStale, h]
  simp only [fromFuture, Bool.or_eq_true, decide_eq_true_eq]

theorem within_eq_clampInt (m x : Int) : within m x = clampInt (-m) m x := by
  rfl

/-- A clamp keeps a value exactly when it lies within the bounds. -/
theorem within_eq_self_iff {m x : Int} : within m x = x ↔ -m ≤ x ∧ x ≤ m := by
  unfold within
  split_ifs <;> omega

/-- Settles O41: the conditions of R96 in their order. -/
theorem zoneOutcomesOfADeviation : Obligations.ZoneOutcomesOfADeviation := by
  intro l p sheet stamp w r d outcome outside age step total settled
  have houtside : p.closes r.zone = true ↔ outside := closes_iff
  have hd : noReading = -32768 := rfl
  have hstepped : steppedTrim l d r = within 60 total := rfl
  have hsum : r.loopTrim + loopStep l d = total := rfl
  have htotal := within_eq_self_iff (m := 60) (x := total)
  have hjudge : settled → outcome =
      if isStale l.settleSheets sheet r then (5, r.loopTrim)
      else if d.natAbs ≤ l.deadBand then (6, r.loopTrim)
      else if within 60 total = total then (7, within 60 total) else (8, within 60 total) := by
    rintro ⟨h1, h2, h3, h4, -⟩
    exact (if_neg h1).trans ((if_neg (fun e => h2 (houtside.mp e))).trans ((if_neg (by rw [h3]; decide)).trans
      (if_neg (not_not.mpr h4))))
  refine ⟨fun h => if_pos h, fun h1 h2 => (if_neg h1).trans (if_pos (houtside.mpr h2)),
    fun h1 h2 h3 => (if_neg h1).trans ((if_neg (fun e => h2 (houtside.mp e))).trans (if_pos h3)),
    fun h1 h2 h3 h4 => (if_neg h1).trans ((if_neg (fun e => h2 (houtside.mp e))).trans ((if_neg (by rw [h3]; decide)).trans
      (if_pos h4))), fun hset hage => ?_, fun hset hage hfuture => ?_⟩
  · have ⟨_, _, _, _, hstamp⟩ := hset
    rw [hjudge hset, if_pos ((isStale_iff hstamp).mpr hage)]
  · have ⟨_, _, _, _, hstamp⟩ := hset
    have hfresh : ¬ isStale l.settleSheets sheet r = true := by
      rw [isStale_iff hstamp]
      exact not_or.mpr ⟨not_lt.mpr hage, not_le.mpr hfuture⟩
    rw [if_neg hfresh] at hjudge
    refine ⟨fun h1 h2 => ?_, fun h => ⟨fun h1 h2 => ?_, fun h1 => ?_⟩⟩
    · rw [hjudge hset, if_pos (by omega)]
    · rw [hjudge hset, if_neg (by omega), if_pos (htotal.mpr ⟨h1, h2⟩), htotal.mpr ⟨h1, h2⟩]
    · rw [hjudge hset, if_neg (by omega), if_neg (fun e => by have := htotal.mp e; omega)]

end Sys2Proof.Claims
end

section
/-! PROOF. Trims, loop hold and the Loop Corrector's whole records (R69, R71, R76 to R80, R92 to R102). -/

namespace Sys2Proof.Claims

open Sys2Proof.Machine Sys2Proof.Safety

/-! ### What a set-point computation looks at -/

/-- A change of records that keeps every place keeps what the chain looks up where it keeps every coverage. -/
theorem coverageAt_map {l : List ZoneRec} {g : ZoneRec → ZoneRec} (hplace : ∀ r, place (g r) = place r)
    (hcov : ∀ r ∈ l, (g r).coverage = r.coverage) (u z : Nat) : coverageAt (l.map g) u z = coverageAt l u z := by
  have hkeeps : ∀ r, (g r).unit = r.unit ∧ (g r).zone = r.zone := fun r => place_eq_iff.mp (hplace r)
  rw [coverageAt, coverageAt, find?_map_isZone l g u z hkeeps]
  cases hf : l.find? (fun r => r.isZone u z) with
  | none => rfl
  | some r => exact hcov r (List.mem_of_find?_eq_some hf)

/-- The chain looks at the coverage of the records and at the Curve Table alone (R55). -/
theorem setPoint_congr {s t : State} (hcov : ∀ u z, coverageAt t.zones u z = coverageAt s.zones u z)
    (hcurves : t.curves = s.curves) (j : ActiveJob) (r : ZoneRec) : setPoint t j r = setPoint s j r := by
  have hvalue : ∀ p u z c, neighbourValue t.zones p u z c = neighbourValue s.zones p u z c := by
    intro p u z c
    rw [neighbourValue, neighbourValue, hcov]
  have hspread : ∀ p u z c, spread t.zones p u z c = spread s.zones p u z c := by
    intro p u z c
    simp only [spread, hvalue]
  have hopening : ∀ p, openingOf t p r = openingOf s p r := by
    intro p
    simp only [openingOf, hspread, State.curve?, hcurves]
  simp only [setPoint, hopening]

/-! ### Writing trims -/

/-- A change of records that writes trims alone. -/
def TrimsOnly (g : ZoneRec → ZoneRec) : Prop :=
  ∀ r, g r = { r with consoleTrim := (g r).consoleTrim, loopTrim := (g r).loopTrim }

theorem TrimsOnly.place {g : ZoneRec → ZoneRec} (h : TrimsOnly g) (r : ZoneRec) : place (g r) = place r := by
  rw [h r]
  rfl

theorem TrimsOnly.coverage {g : ZoneRec → ZoneRec} (h : TrimsOnly g) (r : ZoneRec) : (g r).coverage = r.coverage := by
  rw [h r]

theorem TrimsOnly.target {g : ZoneRec → ZoneRec} (h : TrimsOnly g) (r : ZoneRec) : (g r).target = r.target := by
  rw [h r]

theorem TrimsOnly.eq_self_iff {g : ZoneRec → ZoneRec} (h : TrimsOnly g) (r : ZoneRec) :
    g r = r ↔ r.consoleTrim = (g r).consoleTrim ∧ r.loopTrim = (g r).loopTrim := by
  constructor
  · intro e
    rw [e]
    exact ⟨rfl, rfl⟩
  · rintro ⟨hc, hl⟩
    rw [h r, ← hc, ← hl]

/-- A run's choice of what to write. -/
theorem TrimsOnly.ite {p : ZoneRec → Bool} {g : ZoneRec → ZoneRec} (h : TrimsOnly g) :
    TrimsOnly (fun r => if p r then g r else r) := by
  intro r
  dsimp only
  split_ifs
  · exact h r
  · rfl

section
variable {s : State} {g : ZoneRec → ZoneRec}

/-- A written record is found changed exactly when the writing changes it. -/
theorem trimChanged_iff (hplaces : (s.zones.map place).Nodup) (hg : TrimsOnly g) {r : ZoneRec} (hr : r ∈ s.zones) :
    trimChanged s.zones (g r) = true ↔ g r ≠ r := by
  obtain ⟨hu, hz⟩ := place_eq_iff.mp (hg.place r)
  have hfound : s.zones.find? (fun q => q.isZone (g r).unit (g r).zone) = some r := by
    rw [hu, hz]
    exact (zone?_eq_some_iff hplaces).mpr ⟨hr, rfl, rfl⟩
  rw [trimChanged, hfound, ne_eq, hg.eq_self_iff r, not_and_or]
  simp only [Bool.or_eq_true, bne_iff_ne, ne_eq]

/-- The number of zones whose trims are written anew. -/
theorem countP_trimChanged (hplaces : (s.zones.map place).Nodup) (hg : TrimsOnly g) :
    (s.zones.map g).countP (trimChanged s.zones) = s.zones.countP (fun r => g r != r) := by
  rw [List.countP_map]
  refine List.countP_congr fun r hr => ?_
  rw [Function.comp_apply, trimChanged_iff hplaces hg hr, bne_iff_ne]

/-- A recomputation while a job is active (R69, R71). -/
theorem recompute_of_job {s : State} {j : ActiveJob} (p : ZoneRec → Bool) (h : s.job = some j) :
    s.recompute p =
      ({ s with zones := s.zones.map (fun r => if p r then setPoint s j r else r) },
        changedTargets s.zones (s.zones.map (fun r => if p r then setPoint s j r else r))) := by
  rw [State.recompute, h]

theorem retrimmed_of_job {j : ActiveJob} (h : s.job = some j) :
    retrimmed s g = { s with zones := s.zones.map (fun r => if g r = r then r else setPoint s j (g r)) } := by
  rw [retrimmed, h]

theorem retrimmed_of_no_job (h : s.job = none) : retrimmed s g = { s with zones := s.zones.map g } := by
  rw [retrimmed, h]

/-- The records after the trims are written and the changed zones recomputed (R69). -/
theorem recompute_written (hplaces : (s.zones.map place).Nodup) (hg : TrimsOnly g) :
    (({ s with zones := s.zones.map g } : State).recompute (trimChanged s.zones)) =
      (retrimmed s g, changedZones s.zones (retrimmed s g).zones) := by
  have hsame : ({ s with zones := s.zones.map g } : State).job = s.job := rfl
  obtain hj | ⟨j, hj⟩ : s.job = none ∨ ∃ j, s.job = some j := Option.eq_none_or_eq_some _
  · rw [recompute_of_no_job _ (hsame.trans hj), retrimmed_of_no_job hj]
    have hnone : changedZones s.zones (s.zones.map g) = [] := by
      rw [changedZones, List.map_eq_nil_iff, List.filter_eq_nil_iff]
      intro q hq
      rw [List.zip_map_right, List.mem_map] at hq
      obtain ⟨⟨a, b⟩, hab, rfl⟩ := hq
      obtain ⟨i, hi⟩ := List.mem_iff_getElem?.mp hab
      obtain ⟨ha, hb⟩ := List.getElem?_zip_eq_some.mp hi
      obtain rfl : a = b := Option.some.inj (ha.symm.trans hb)
      simp only [Prod.map_apply, id, hg.target, bne_self_eq_false]
      decide
    rw [hnone]
  · have hset : ∀ r, setPoint { s with zones := s.zones.map g } j r = setPoint s j r :=
      setPoint_congr (s := s) (t := { s with zones := s.zones.map g }) (coverageAt_map hg.place fun r _ => hg.coverage r) rfl j
    have hzones : (s.zones.map g).map (fun r =>
          if trimChanged s.zones r = true then setPoint { s with zones := s.zones.map g } j r else r) =
        s.zones.map (fun r => if g r = r then r else setPoint s j (g r)) := by
      rw [List.map_map]
      refine List.map_congr_left fun r hr => ?_
      by_cases h : g r = r
      · have hsame := (trimChanged_iff hplaces hg hr).not.mpr (not_not.mpr h)
        rw [Function.comp_apply, if_neg hsame, if_pos h, h]
      · rw [Function.comp_apply, if_pos ((trimChanged_iff hplaces hg hr).mpr h), if_neg h, hset]
    have hbatch : ∀ new, changedTargets (s.zones.map g) new = changedZones s.zones new := by
      intro new
      rw [changedTargets, changedZones, List.zip_map_left, List.filter_map, List.map_map]
      simp only [Function.comp_def, Prod.map_fst, Prod.map_snd, id, hg.target]
    rw [recompute_of_job _ (hsame.trans hj), retrimmed_of_job hj]
    dsimp only
    rw [hzones, hbatch]

/-- A trim request's effect and counts (R69, R71, R78). -/
theorem writeZoneTrims_map (hplaces : (s.zones.map place).Nodup) (hg : TrimsOnly g) :
    s.writeZoneTrims (s.zones.map g) =
      (trimmed s g, s.zones.countP (fun r => g r != r), (changedZones s.zones (retrimmed s g).zones).length) := by
  rw [State.writeZoneTrims, recompute_written hplaces hg, countP_trimChanged hplaces hg]
  rfl

end

/-! ### Runs of zones -/

/-- The place of a zone in its run. -/
theorem runPlace_eq (u f n : Nat) (r : ZoneRec) : runPlace u f n r = if inRun u f n r then some (r.zone - f) else none := by
  simp only [runPlace, inRun, Bool.and_eq_true, beq_iff_eq, decide_eq_true_eq, and_assoc]

/-- A word of the run, three operands after the frame's first. -/
theorem operand_of_run (u f n : Word) (ws : List Word) (i : Nat) :
    (u :: f :: n :: ws).getD (3 + i) 0 = ws.getD i 0 := by
  rw [Nat.add_comm]
  rfl

/-- A filter that maps what it keeps. -/
theorem filterMap_ite_some {α β : Type} (p : α → Bool) (h : α → β) (l : List α) :
    l.filterMap (fun a => if p a then some (h a) else none) = (l.filter p).map h := by
  induction l with
  | nil => rfl
  | cons a l ih => cases hp : p a <;> simp [hp, ih]

/-- The checks of a run: its count, and R5. -/
def RunGood (s : State) (u f n : Nat) : Prop := 1 ≤ n ∧ n ≤ 36 ∧ runValid s u f n

theorem validRange_of_good {s : State} {u f n : Nat} (h : RunGood s u f n) :
    ¬ (n < 1 ∨ 36 < n) ∧ ¬ (!s.validRange u f n) = true := by
  obtain ⟨h1, h36, hvalid⟩ := h
  refine ⟨by omega, ?_⟩
  rw [validRange_iff.mpr hvalid]
  decide

theorem refused_of_not_good {α : Type} {s : State} {u f n : Nat} (h : ¬ RunGood s u f n) (a b : α) :
    (if n < 1 ∨ 36 < n then a else if (!s.validRange u f n) = true then a else b) = a := by
  by_cases hn : n < 1 ∨ 36 < n
  · exact if_pos hn
  · refine (if_neg hn).trans (if_pos ?_)
    rw [Bool.not_eq_true', Bool.eq_false_iff]
    exact fun hv => h ⟨by omega, by omega, validRange_iff.mp hv⟩

/-! ### SET and ADJUST CONSOLE TRIM, CLEAR TRIMS -/

/-- The records of a run with the clamped values written (R76, R77). -/
def writeRun (u f n : Nat) (x : ZoneRec → Int) (r : ZoneRec) : ZoneRec :=
  if inRun u f n r then { r with consoleTrim := within 100 (x r) } else r

theorem writeRun_trimsOnly (u f n : Nat) (x : ZoneRec → Int) : TrimsOnly (writeRun u f n x) :=
  TrimsOnly.ite (g := fun r => { r with consoleTrim := within 100 (x r) }) fun _ => rfl

/-- The values a run is given, each zone's by its place. -/
theorem writeTrims_eq {zones : List ZoneRec} {u f n : Nat} {wanted : Nat → ZoneRec → Int} {x : ZoneRec → Int}
    (hx : ∀ r, wanted (r.zone - f) r = x r) : writeTrims zones u f n wanted = zones.map (writeRun u f n x) := by
  refine List.map_congr_left fun r _ => ?_
  rw [runPlace_eq, writeRun]
  cases inRun u f n r with
  | true => simp only [if_true, hx]; rfl
  | false => rfl

/-- The number of clamps (R76). -/
theorem countP_runRequests {s : State} {u f n : Nat} {wanted : Nat → ZoneRec → Int} {x : ZoneRec → Int}
    (hx : ∀ r, wanted (r.zone - f) r = x r) :
    (runRequests s u f n wanted).countP (fun q => clampTrim q.2 != q.2) =
      s.zones.countP (fun r => inRun u f n r && within 100 (x r) != x r) := by
  rw [runRequests, List.countP_filterMap]
  refine List.countP_congr fun r _ => ?_
  rw [runPlace_eq]
  cases inRun u f n r with
  | true => simp only [if_true, Option.map_some, Option.getD_some, hx, Bool.true_and]; rfl
  | false => rfl

/-- A console trim request over the value each zone of its run is to take (R76 to R78). -/
theorem consoleTrimBody_of_good {s : State} {u f n : Word} {vs : List Word} {wanted : List Word → Nat → ZoneRec → Int}
    {x : ZoneRec → Int} (hrecords : RecordsOk s) (hgood : RunGood s u.toNat f.toNat n.toNat)
    (hx : ∀ r, wanted (u :: f :: n :: vs) (r.zone - f.toNat) r = x r) :
    consoleTrimBody wanted (u :: f :: n :: vs) s =
      accept (trimmed s (writeRun u.toNat f.toNat n.toNat x))
        (num (s.zones.countP (fun r => inRun u.toNat f.toNat n.toNat r && within 100 (x r) != x r)) ::
          trimCounts s (writeRun u.toNat f.toNat n.toNat x)) := by
  obtain ⟨hcount, hvalid⟩ := validRange_of_good hgood
  refine (if_neg hcount).trans ((if_neg hvalid).trans ?_)
  change accept (s.writeZoneTrims (writeTrims s.zones u.toNat f.toNat n.toNat (wanted (u :: f :: n :: vs)))).1
    [uword ((runRequests s u.toNat f.toNat n.toNat (wanted (u :: f :: n :: vs))).countP (fun q => clampTrim q.2 != q.2)),
      uword (s.writeZoneTrims (writeTrims s.zones u.toNat f.toNat n.toNat (wanted (u :: f :: n :: vs)))).2.1,
      uword (s.writeZoneTrims (writeTrims s.zones u.toNat f.toNat n.toNat (wanted (u :: f :: n :: vs)))).2.2] = _
  rw [writeTrims_eq hx, countP_runRequests hx,
    writeZoneTrims_map (records_nodup hrecords) (writeRun_trimsOnly u.toNat f.toNat n.toNat x)]
  rfl

theorem consoleTrimBody_of_not_good {s : State} {u f n : Word} (vs : List Word)
    (wanted : List Word → Nat → ZoneRec → Int) (h : ¬ RunGood s u.toNat f.toNat n.toNat) :
    consoleTrimBody wanted (u :: f :: n :: vs) s = refuse s .badParam [] :=
  refused_of_not_good h _ _

/-- The trims a selector clears (R79). -/
def clearOf (u which : Word) (r : ZoneRec) : ZoneRec :=
  if u = 0 ∨ r.unit = u.toNat then
    { r with
      consoleTrim := if which = 2 then r.consoleTrim else 0, loopTrim := if which = 1 then r.loopTrim else 0 }
  else r

theorem clearOf_trimsOnly (u which : Word) : TrimsOnly (clearOf u which) := by
  intro r
  unfold clearOf
  split_ifs <;> rfl

/-- A selector of CLEAR TRIMS is 1, 2 or 3. -/
theorem selector_cases {w : Word} (h1 : 1 ≤ w.toNat) (h3 : w.toNat ≤ 3) : w = 1 ∨ w = 2 ∨ w = 3 := by
  obtain h | h | h : w.toNat = 1 ∨ w.toNat = 2 ∨ w.toNat = 3 := by omega
  · exact .inl (BitVec.eq_of_toNat_eq h)
  · exact .inr (.inl (BitVec.eq_of_toNat_eq h))
  · exact .inr (.inr (BitVec.eq_of_toNat_eq h))

theorem clearedTrims_eq {u which : Word} (h1 : 1 ≤ which.toNat) (h3 : which.toNat ≤ 3) (r : ZoneRec) :
    (if u.toNat = 0 ∨ r.unit = u.toNat then clearedTrims which.toNat r else r) = clearOf u which r := by
  simp only [clearOf, toNat_eq_zero_iff]
  obtain rfl | rfl | rfl := selector_cases h1 h3 <;> rfl

/-- CLEAR TRIMS (R79). -/
theorem clearTrimsBody_eq (u which : Word) (s : State) :
    clearTrimsBody [u, which] s =
      if u.toNat ≠ 0 ∧ (!s.unitConfigured u.toNat) = true then refuse s .badParam [1]
      else if which.toNat < 1 ∨ 3 < which.toNat then refuse s .badParam [2]
      else
        accept (s.writeZoneTrims (s.zones.map
            (fun r => if u.toNat = 0 ∨ r.unit = u.toNat then clearedTrims which.toNat r else r))).1
          [uword (s.writeZoneTrims (s.zones.map
            (fun r => if u.toNat = 0 ∨ r.unit = u.toNat then clearedTrims which.toNat r else r))).2.1,
          uword (s.writeZoneTrims (s.zones.map
            (fun r => if u.toNat = 0 ∨ r.unit = u.toNat then clearedTrims which.toNat r else r))).2.2] := by
  rfl

/-- The frame of a request over a run carries its three first operands and one word for each zone (R177). -/
theorem run_words {n : Word} {vs : List Word} (h : vs.length = n.toNat) (u f : Word) :
    some (3 + 1 * n.toNat) = some (u :: f :: n :: vs).length := by
  simp only [List.length_cons, h]
  exact congrArg some (by omega)

/-- Settles O33: the run judged, the trims written, clamped and counted, and the batch handed. -/
theorem trimRequestsWriteClampAndCount : Obligations.TrimRequestsWriteClampAndCount := by
  intro s hfree hdevice hrecords
  refine ⟨?_, ?_⟩
  · intro fr u f n vs hfr hlen good run value total write clamps
    have hset : Taken .setConsoleTrim fr (u :: f :: n :: vs) s :=
      hfr.taken hfree (run_words hlen u f) rfl (fun _ => hdevice) (by decide)
    have hadjust : Taken .adjustConsoleTrim fr (u :: f :: n :: vs) s :=
      hfr.taken hfree (run_words hlen u f) rfl (fun _ => hdevice) (by decide)
    have habsolute : ∀ r, absoluteTrim (u :: f :: n :: vs) (r.zone - f.toNat) r = value r := fun r =>
      congrArg BitVec.toInt (operand_of_run u f n vs _)
    have hadjusted : ∀ r, adjustedTrim (u :: f :: n :: vs) (r.zone - f.toNat) r = total r := fun r =>
      congrArg (fun w => r.consoleTrim + BitVec.toInt w) (operand_of_run u f n vs _)
    refine ⟨fun hbad => ⟨?_, ?_⟩, fun hgood => ⟨?_, ?_⟩⟩
    · exact hset.exec_refused nofun (consoleTrimBody_of_not_good vs absoluteTrim hbad)
    · exact hadjust.exec_refused nofun (consoleTrimBody_of_not_good vs adjustedTrim hbad)
    · exact hset.exec_plain (by decide) (consoleTrimBody_of_good hrecords hgood habsolute)
    · exact hadjust.exec_plain (by decide) (consoleTrimBody_of_good hrecords hgood hadjusted)
  · intro fr u which hfr unitOk whichOk clear
    have htaken : Taken .clearTrims fr [u, which] s := hfr.taken hfree rfl rfl (fun _ => hdevice) (by decide)
    have hbody := clearTrimsBody_eq u which s
    have hunit : unitOk ↔ ¬ (u.toNat ≠ 0 ∧ (!s.unitConfigured u.toNat) = true) := by
      rw [unitConfigured_eq, ne_eq, toNat_eq_zero_iff, Bool.not_eq_true', decide_eq_false_iff_not, not_and_or, not_not,
        not_not]
    refine ⟨fun h => ?_, fun hu h => ?_, fun hu ⟨h1, h3⟩ => ?_⟩
    · exact htaken.exec_refused nofun (hbody.trans (if_pos (by_contra fun e => h (hunit.mpr e))))
    · have hbad : which.toNat < 1 ∨ 3 < which.toNat := by
        by_contra e
        exact h ⟨by omega, by omega⟩
      exact htaken.exec_refused nofun (hbody.trans ((if_neg (hunit.mp hu)).trans (if_pos hbad)))
    · refine htaken.exec_plain (by decide) (hbody.trans ((if_neg (hunit.mp hu)).trans ((if_neg (by omega)).trans ?_)))
      simp only [clearedTrims_eq h1 h3]
      rw [writeZoneTrims_map (records_nodup hrecords) (clearOf_trimsOnly u which)]
      rfl

/-! ### SET LOOP HOLD -/

theorem badFlagPlace_eq (ws : List Word) : badFlagPlace ws = firstBad (fun w => decide (1 < w.toNat)) ws := by
  induction ws with
  | nil => rfl
  | cons w ws ih => rw [badFlagPlace, firstBad, ih]; simp only [decide_eq_true_eq]

/-- The flags of a run written (R80). -/
theorem writeLoopHold_eq (zones : List ZoneRec) (u f n : Word) (ws : List Word) :
    writeLoopHold zones u.toNat f.toNat n.toNat (u :: f :: n :: ws) =
      zones.map (fun r =>
        if inRun u.toNat f.toNat n.toNat r then { r with loopHold := runWord ws f.toNat r == 1 } else r) := by
  refine List.map_congr_left fun r _ => ?_
  rw [runPlace_eq]
  cases inRun u.toNat f.toNat n.toNat r with
  | false => rfl
  | true =>
    have hword : (operand (u :: f :: n :: ws) (3 + (r.zone - f.toNat)) == 1) = (runWord ws f.toNat r == 1) := by
      rw [operand, operand_of_run, runWord, Bool.eq_iff_iff, beq_iff_eq, beq_iff_eq]
      exact ⟨fun h => BitVec.eq_of_toNat_eq h, fun h => by rw [h]; rfl⟩
    simp only [if_true, hword]

/-- SET LOOP HOLD of a good run (R80). -/
theorem setLoopHoldBody_of_good {s : State} {u f n : Word} (ws : List Word) (h : RunGood s u.toNat f.toNat n.toNat) :
    setLoopHoldBody (u :: f :: n :: ws) s =
      match badFlagPlace ws with
      | some i => refuse s .badParam [uword i]
      | none =>
        accept { s with zones := writeLoopHold s.zones u.toNat f.toNat n.toNat (u :: f :: n :: ws) }
          [uword ((({ s with
            zones := writeLoopHold s.zones u.toNat f.toNat n.toNat (u :: f :: n :: ws) } : State).unitZones u.toNat).countP
              (fun r => r.loopHold))] := by
  obtain ⟨hcount, hvalid⟩ := validRange_of_good h
  exact (if_neg hcount).trans (if_neg hvalid)

/-- Settles O34: the run judged, the first bad flag word by its place, and the flags written. -/
theorem loopHoldFlagsAreWritten : Obligations.LoopHoldFlagsAreWritten := by
  intro s fr u f n ws hfree hfr hlen hdevice good t
  have htaken : Taken .setLoopHold fr (u :: f :: n :: ws) s :=
    hfr.taken hfree (run_words hlen u f) rfl (fun _ => hdevice) (by decide)
  refine ⟨fun h => htaken.exec_refused nofun (refused_of_not_good h _ _), fun i hgood ⟨w, hw, hbad⟩ hbefore => ?_,
    fun hgood hflags => ?_⟩
  · have hbody := setLoopHoldBody_of_good ws hgood
    rw [badFlagPlace_eq, firstBad_eq_some hw (decide_eq_true hbad)
      (fun j hj v hv => decide_eq_false (not_lt.mpr (hbefore j hj v hv)))] at hbody
    exact htaken.exec_refused nofun hbody
  · have hbody := setLoopHoldBody_of_good ws hgood
    have hgoodFlags : ∀ (i : Nat) (w : Word), ws[i]? = some w → decide (1 < w.toNat) = false := fun i w hw =>
      decide_eq_false (not_lt.mpr (hflags w (List.mem_of_getElem? hw)))
    rw [badFlagPlace_eq, firstBad_eq_none hgoodFlags] at hbody
    have hcount : ∀ l : List ZoneRec, (l.filter (fun r => r.unit == u.toNat)).countP (fun r => r.loopHold) =
        l.countP (fun r => r.unit == u.toNat && r.loopHold) := fun l => by
      rw [List.countP_filter]
      exact List.countP_congr fun r _ => by rw [Bool.and_comm]
    simp only [writeLoopHold_eq s.zones u f n ws, State.unitZones, hcount] at hbody
    exact htaken.exec_plain (by decide) hbody

/-! ### APPLY DEVIATIONS -/

theorem badDeviationPlace_eq (ws : List Word) : badDeviationPlace ws = firstBad badDeviation ws := by
  induction ws with
  | nil => rfl
  | cons w ws ih => rw [badDeviationPlace, firstBad, ih]

/-- A deviation word of the table of R92: the marker, or a value in −999 to +999. -/
def DeviationOk (w : Word) : Prop := w.toInt = -32768 ∨ (-999 ≤ w.toInt ∧ w.toInt ≤ 999)

theorem badDeviation_iff (w : Word) : badDeviation w = true ↔ ¬ DeviationOk w := by
  simp only [badDeviation, noReading, DeviationOk, Bool.and_eq_true, bne_iff_ne, Bool.or_eq_true, decide_eq_true_eq]
  omega

theorem badDeviation_eq_false {w : Word} (h : DeviationOk w) : badDeviation w = false := by
  rw [Bool.eq_false_iff]
  exact fun e => (badDeviation_iff w).mp e h

/-- The whole-record checks of a record for a used unit (R93). -/
theorem recordRefusal_of_used {s : State} {u hi lo f n : Word} {p : UnitParams} (ds : List Word)
    (hused : s.usedUnit u.toNat = some p) :
    recordRefusal s (u :: hi :: lo :: f :: n :: ds) =
      if n.toNat < 1 ∨ 36 < n.toNat then some ⟨.badParam, [1, 0]⟩
      else if f.toNat = 0 ∨ s.zonesOf u.toNat + 1 < f.toNat + n.toNat then some ⟨.badParam, [2, 0]⟩
      else
        match firstBad badDeviation ds with
        | some i => some ⟨.badParam, [3, num i]⟩
        | none =>
          if s.press.impression.filtered = false then some ⟨.noPrint, []⟩
          else if 2 ^ 31 ≤ (s.press.sheets - (hi ++ lo : BitVec 32)).toNat then
            some ⟨.badSheet, [upperWord s.press.sheets, lowerWord s.press.sheets]⟩
          else none := by
  have hu : operand (u :: hi :: lo :: f :: n :: ds) 0 = u.toNat := rfl
  rw [recordRefusal, hu, if_neg (by rw [hused]; exact Bool.false_ne_true), ← badDeviationPlace_eq, ← upper_eq_upperWord,
    ← lower_eq_lowerWord]
  simp only [Bool.not_eq_true', fromFuture, decide_eq_true_eq]
  rfl

/-- A refused record changes nothing (R93). -/
theorem applyDeviationsBody_refused {s : State} {ws : List Word} {a : Answer} (h : recordRefusal s ws = some a) :
    applyDeviationsBody ws s = (s, a) := by
  rw [applyDeviationsBody, h]

/-- The loop trims of a run written as each zone is judged (R101). -/
def writeJudged (u f n : Nat) (judge : ZoneRec → Nat × Int) (r : ZoneRec) : ZoneRec :=
  if inRun u f n r then { r with loopTrim := (judge r).2 } else r

theorem writeJudged_trimsOnly (u f n : Nat) (judge : ZoneRec → Nat × Int) : TrimsOnly (writeJudged u f n judge) :=
  TrimsOnly.ite (g := fun r => { r with loopTrim := (judge r).2 }) fun _ => rfl

/-- The judgement of each zone of the run, in the words of the statements. -/
theorem judgeRecord_eq (s : State) (p : UnitParams) (u hi lo f n : Word) (ds : List Word) :
    judgeRecord s p (u :: hi :: lo :: f :: n :: ds) = fun r =>
      if inRun u.toNat f.toNat n.toNat r then some (judgeZone s.loop p (hi ++ lo) (runWord ds f.toNat r) r) else none := by
  funext r
  have hword : ∀ i, (u :: hi :: lo :: f :: n :: ds).getD (5 + i) 0 = ds.getD i 0 := by
    intro i
    rw [Nat.add_comm]
    rfl
  have hplace : runPlace (operand (u :: hi :: lo :: f :: n :: ds) 0) (operand (u :: hi :: lo :: f :: n :: ds) 3)
      (operand (u :: hi :: lo :: f :: n :: ds) 4) r = runPlace u.toNat f.toNat n.toNat r := rfl
  rw [judgeRecord, hplace, runPlace_eq]
  cases inRun u.toNat f.toNat n.toNat r with
  | false => rfl
  | true =>
    simp only [if_true, Option.map_some, hword]
    rfl

/-- An accepted record (R101, R102). -/
theorem applyDeviationsBody_accepted {s : State} {u hi lo f n : Word} {ds : List Word} {p : UnitParams}
    (hplaces : (s.zones.map place).Nodup) (hrefusal : recordRefusal s (u :: hi :: lo :: f :: n :: ds) = none)
    (hused : s.usedUnit u.toNat = some p) :
    let judge (r : ZoneRec) : Nat × Int := judgeZone s.loop p (hi ++ lo) (runWord ds f.toNat r) r
    let write := writeJudged u.toNat f.toNat n.toNat judge
    applyDeviationsBody (u :: hi :: lo :: f :: n :: ds) s =
      accept (trimmed s write)
        ([n] ++ trimCounts s write ++ (s.zones.filter (inRun u.toNat f.toNat n.toNat)).flatMap
          (fun r => [num (judge r).1, BitVec.ofInt 16 (judge r).2])) := by
  intro judge write
  have hu : operand (u :: hi :: lo :: f :: n :: ds) 0 = u.toNat := rfl
  have hn : uword (operand (u :: hi :: lo :: f :: n :: ds) 4) = n := uword_toNat n
  have hwrite : writeLoopTrims s p (u :: hi :: lo :: f :: n :: ds) = s.zones.map write := by
    refine List.map_congr_left fun r _ => ?_
    rw [judgeRecord_eq]
    dsimp only
    change _ = if inRun u.toNat f.toNat n.toNat r then { r with loopTrim := (judge r).2 } else r
    cases inRun u.toNat f.toNat n.toNat r <;> rfl
  have hjudged : s.zones.filterMap (judgeRecord s p (u :: hi :: lo :: f :: n :: ds)) =
      (s.zones.filter (inRun u.toNat f.toNat n.toNat)).map judge := by
    rw [judgeRecord_eq]
    exact filterMap_ite_some _ judge _
  rw [applyDeviationsBody, hrefusal, hu, hused]
  dsimp only
  rw [hwrite, hjudged, hn, writeZoneTrims_map hplaces (writeJudged_trimsOnly _ _ _ judge), List.flatMap_map]
  rfl

/-- Settles O40: the checks of R93 in order, and the effects of an accepted record. -/
theorem deviationRecordsAreJudgedWhole : Obligations.DeviationRecordsAreJudgedWhole := by
  intro s fr u hi lo f n ds hfree hfr hlen hdevice hrecords refused sheet countOk runOk inTable
  have hwords : some (5 + 1 * n.toNat) = some (u :: hi :: lo :: f :: n :: ds).length := by
    simp only [List.length_cons, hlen]
    exact congrArg some (by omega)
  have htaken : Taken .applyDeviations fr (u :: hi :: lo :: f :: n :: ds) s :=
    hfr.taken hfree hwords rfl (fun _ => hdevice) (by decide)
  have hrefused : ∀ {o data}, o ≠ .ok → recordRefusal s (u :: hi :: lo :: f :: n :: ds) = some ⟨o, data⟩ →
      refused o data := fun ho h => htaken.exec_refused ho (applyDeviationsBody_refused h)
  refine ⟨fun h => hrefused nofun ?_, fun j p hj hp => ?_⟩
  · have hnone : s.usedUnit u.toNat = none := by
      rw [State.usedUnit, Option.bind_eq_none_iff]
      exact h
    have hnone' : (s.usedUnit (operand (u :: hi :: lo :: f :: n :: ds) 0)).isNone = true :=
      Option.isNone_iff_eq_none.mpr hnone
    exact if_pos hnone'
  have hused : s.usedUnit u.toNat = some p := by rw [State.usedUnit, hj, Option.bind_some, hp]
  have hcheck := recordRefusal_of_used (s := s) (u := u) (hi := hi) (lo := lo) (f := f) (n := n) ds hused
  have hfirst : (∀ w ∈ ds, inTable w) → firstBad badDeviation ds = none := fun h =>
    firstBad_eq_none fun i w hw => badDeviation_eq_false (h w (List.mem_of_getElem? hw))
  refine ⟨fun hc => hrefused nofun ?_, fun hc hr => hrefused nofun ?_, fun i hc hr ⟨w, hw, hbad⟩ hbefore => hrefused nofun ?_,
    fun hc hr hds => ⟨fun hi => hrefused nofun ?_, fun hi hs => hrefused nofun ?_, ?_⟩⟩
  · rw [hcheck, if_pos (by by_contra e; exact hc ⟨by omega, by omega⟩)]
  · have ⟨hc1, hc36⟩ := hc
    rw [hcheck, if_neg (by omega), if_pos (by by_contra e; exact hr ⟨by omega, by omega⟩)]
  · have ⟨hc1, hc36⟩ := hc
    have ⟨hr1, hrn⟩ := hr
    rw [hcheck, if_neg (by omega), if_neg (by omega), firstBad_eq_some hw ((badDeviation_iff w).mpr hbad)
      (fun k hk v hv => badDeviation_eq_false (hbefore k hk v hv))]
  · have ⟨hc1, hc36⟩ := hc
    have ⟨hr1, hrn⟩ := hr
    rw [hcheck, if_neg (by omega), if_neg (by omega), hfirst hds]
    exact if_pos hi
  · have ⟨hc1, hc36⟩ := hc
    have ⟨hr1, hrn⟩ := hr
    rw [hcheck, if_neg (by omega), if_neg (by omega), hfirst hds]
    exact (if_neg (by rw [hi]; decide)).trans (if_pos hs)
  · intro himpression hs judge write
    have ⟨hc1, hc36⟩ := hc
    have ⟨hr1, hrn⟩ := hr
    have hnone : recordRefusal s (u :: hi :: lo :: f :: n :: ds) = none := by
      rw [hcheck, if_neg (by omega), if_neg (by omega), hfirst hds]
      exact (if_neg (by rw [himpression]; decide)).trans (if_neg (not_le.mpr hs))
    exact htaken.exec_plain (by decide) (applyDeviationsBody_accepted (records_nodup hrecords) hnone hused)

end Sys2Proof.Claims
end

section
/-! PROOF. The set-point fields of a whole table, and TAKE JOB, END JOB and SET SWEEP (R38, R44 to R49, R69). -/

namespace Sys2Proof.Claims

open Sys2Proof.Machine Sys2Proof.Safety

/-! ### A set-point computation over its own result -/

/-- A zone is of an unused unit, closed, or open (R58). -/
theorem width_cases (j : ActiveJob) (r : ZoneRec) :
    j.record? r.unit = none ∨ ∃ p, j.record? r.unit = some p ∧
      ((r.zone < p.first ∨ p.last < r.zone) ∨ p.first ≤ r.zone ∧ r.zone ≤ p.last) := by
  cases j.record? r.unit with
  | none => exact .inl rfl
  | some p => exact .inr ⟨p, rfl, by omega⟩

/-- A record of a used unit keeps its coverage (R58). -/
theorem setPoint_coverage_of_used {s : State} {j : ActiveJob} {r : ZoneRec} {p : UnitParams}
    (h : j.record? r.unit = some p) : (setPoint s j r).coverage = r.coverage := by
  obtain hn | ⟨q, hq, hclosed | ⟨hfirst, hlast⟩⟩ := width_cases j r
  · rw [hn] at h
    cases h
  · rw [setPoint_of_closed hq hclosed]
  · rw [setPoint_of_open hq hfirst hlast]

theorem setPoint_coverage_of_unused {s : State} {j : ActiveJob} {r : ZoneRec} (h : j.record? r.unit = none) :
    (setPoint s j r).coverage = none := by
  rw [setPoint_of_unused h]

/-- A set-point computation of its own result changes nothing (R56). -/
theorem setPoint_setPoint (s : State) (j : ActiveJob) (r : ZoneRec) : setPoint s j (setPoint s j r) = setPoint s j r := by
  obtain hn | ⟨p, hp, hclosed | ⟨hfirst, hlast⟩⟩ := width_cases j r
  · rw [setPoint_of_unused hn]
    exact setPoint_of_unused hn
  · rw [setPoint_of_closed hp hclosed]
    exact setPoint_of_closed hp hclosed
  · rw [setPoint_of_open hp hfirst hlast]
    exact setPoint_of_open hp hfirst hlast

theorem setPoint_place (s : State) (j : ActiveJob) (r : ZoneRec) : place (setPoint s j r) = place r := by
  rw [place, place, setPoint_unit, setPoint_zone]

theorem setPoint_onlySetPoint (s : State) (j : ActiveJob) (r : ZoneRec) : OnlySetPoint r (setPoint s j r) :=
  setPoint_frame s j r

/-- A list and its image under a function, record by record. -/
theorem forall₂_map {α : Type} {R : α → α → Prop} {f : α → α} {l : List α} (h : ∀ a ∈ l, R a (f a)) :
    List.Forall₂ R l (l.map f) := by
  rw [List.forall₂_map_right_iff, List.forall₂_same]
  exact h

/-! ### END JOB -/

theorem endJobBody_of_job {s : State} {j : ActiveJob} (h : s.job = some j) (ws : List Word) :
    endJobBody ws s =
      accept (({ s with
          job := none, device := .configured, preset := false, zones := s.zones.map endedRecord } : State).handBatch
          ((s.zones.map endedRecord).map (fun r => (r.unit, r.zone)))) [uword j.jobNo] := by
  rw [endJobBody, h]
  rfl

/-- Settles O27: without a job nothing is ended; with one the records lose their set-point fields and every zone is handed. -/
theorem endJobRemovesTheTargets : Obligations.EndJobRemovesTheTargets := by
  intro s f hfree hf hdevice
  have htaken : Taken .endJob f [] s := hf.taken hfree rfl rfl (fun _ => hdevice) (by decide)
  refine ⟨fun h => htaken.exec_refused nofun ?_, fun j hj => htaken.exec_plain (by decide) ?_⟩
  · change endJobBody [] s = _
    rw [endJobBody, h]
  · refine (endJobBody_of_job hj []).trans ?_
    rw [List.map_map]
    rfl

/-! ### SET SWEEP -/

/-- A record under its unit is the one found there (R44). -/
theorem record?_of_mem {j : ActiveJob} (h : UnitRecordsOk j.units j.records) {p : UnitParams} (hp : p ∈ j.records) :
    j.record? p.unit = some p := by
  obtain ⟨-, hnodup, hlisted⟩ := h
  obtain ⟨hunit, -⟩ := hlisted p hp
  have hsome : (j.records.find? (fun q => q.unit == p.unit)).isSome := by
    rw [List.find?_isSome]
    exact ⟨p, hp, beq_self_eq_true _⟩
  obtain ⟨q, hq⟩ := Option.isSome_iff_exists.mp hsome
  have hqp : q = p := List.inj_on_of_nodup_map hnodup (List.mem_of_find?_eq_some hq) hp
    (beq_iff_eq.mp (List.find?_some (p := fun q : UnitParams => q.unit == p.unit) hq))
  rw [ActiveJob.record?, if_pos (List.contains_iff_mem.mpr hunit), hq, hqp]

theorem record?_of_not_used {j : ActiveJob} {u : Nat} (h : u ∉ j.units) : j.record? u = none :=
  if_neg fun e => h (List.contains_iff_mem.mp e)

/-- The record of a unit after a new sweep (R49). -/
theorem record?_setSweep (j : ActiveJob) (u sweep v : Nat) :
    (j.setSweep u sweep).record? v =
      (j.record? v).map (fun p => if p.unit == u then { p with sweep := sweep } else p) := by
  have hunit : ((fun q : UnitParams => q.unit == v) ∘ fun p => if p.unit == u then { p with sweep := sweep } else p) =
      fun q => q.unit == v := by
    funext q
    simp only [Function.comp_apply]
    split_ifs <;> rfl
  unfold ActiveJob.record? ActiveJob.setSweep
  rw [List.find?_map, hunit]
  split_ifs <;> rfl

theorem setSweep_eq (j : ActiveJob) (u sweep : Nat) :
    j.setSweep u sweep = { j with
      records := j.records.map (fun q => if q.unit = u then { q with sweep := sweep } else q) } := by
  rw [ActiveJob.setSweep]
  simp only [beq_iff_eq]

/-- The records with the zones that `p` selects recomputed for a job whose units they are (R69). -/
def recomputed (s : State) (j : ActiveJob) (p : ZoneRec → Bool) : List ZoneRec :=
  s.zones.map (fun r => if p r then setPoint s j r else r)

theorem recomputed_coverageAt {s : State} {j : ActiveJob} {p : ZoneRec → Bool}
    (h : ∀ r ∈ s.zones, p r = true → (setPoint s j r).coverage = r.coverage) (u z : Nat) :
    coverageAt (recomputed s j p) u z = coverageAt s.zones u z := by
  refine coverageAt_map (fun r => ?_) (fun r hr => ?_) u z
  · split_ifs
    exacts [setPoint_place s j r, rfl]
  · split_ifs with hp
    exacts [h r hr hp, rfl]

theorem setSweepBody_eq (u sweep : Word) (s : State) :
    setSweepBody [u, sweep] s =
      if (!s.unitConfigured u.toNat) = true then refuse s .badParam []
      else if sweep.toNat < 10 ∨ 100 < sweep.toNat then refuse s .badParam []
      else
        match s.job with
        | none => refuse s .noJob []
        | some j =>
          match j.record? u.toNat with
          | none => refuse s .noJob []
          | some p =>
            accept
              ((({ s with job := some (j.setSweep u.toNat sweep.toNat) } : State).recompute
                  (fun r => r.unit == u.toNat)).1.handBatch
                (({ s with job := some (j.setSweep u.toNat sweep.toNat) } : State).recompute
                  (fun r => r.unit == u.toNat)).2)
              [uword p.sweep, uword (({ s with job := some (j.setSweep u.toNat sweep.toNat) } : State).recompute
                (fun r => r.unit == u.toNat)).2.length] := by
  rfl

/-- Settles O28: the checks in order; the zones of the unit are recomputed for the new sweep, which keeps their coverage, so
that the chain still gives them. -/
theorem setSweepRecomputesTheUnit : Obligations.SetSweepRecomputesTheUnit := by
  intro s f u sweep hfree hf hdevice hjob configured inRange
  have htaken : Taken .setSweep f [u, sweep] s := hf.taken hfree rfl rfl (fun _ => hdevice) (by decide)
  have hbody := setSweepBody_eq u sweep s
  have hconfigured : ¬ (!s.unitConfigured u.toNat) = true ↔ configured := by
    rw [unitConfigured_eq, Bool.not_eq_true', decide_eq_false_iff_not, not_not]
  refine ⟨fun h => htaken.exec_refused nofun ?_, fun hc hr hnone => htaken.exec_refused nofun ?_, ?_⟩
  · by_cases hc : configured
    · refine hbody.trans ((if_neg (hconfigured.mpr hc)).trans (if_pos ?_))
      by_contra e
      exact h ⟨hc, by omega, by omega⟩
    · exact hbody.trans (if_pos (not_not.mp fun e => hc (hconfigured.mp e)))
  · have ⟨hr1, hr2⟩ := hr
    refine hbody.trans ((if_neg (hconfigured.mpr hc)).trans ((if_neg (by omega)).trans ?_))
    cases hj : s.job with
    | none => rfl
    | some j =>
      have hrec : j.record? u.toNat = none := record?_of_not_used (hnone j hj)
      simp only [hrec]
  · intro j p hc hr hj hp hpu
    have ⟨hr1, hr2⟩ := hr
    have ⟨hrecords, _⟩ := hjob j hj
    have hrec : j.record? u.toNat = some p := hpu ▸ record?_of_mem hrecords hp
    let j' := j.setSweep u.toNat sweep.toNat
    let new := recomputed s j' (fun r => r.unit == u.toNat)
    have hkeep : ∀ r : ZoneRec, r.unit = u.toNat → (setPoint s j' r).coverage = r.coverage := by
      intro r hru
      refine setPoint_coverage_of_used (p := if p.unit == u.toNat then { p with sweep := sweep.toNat } else p) ?_
      rw [record?_setSweep, hru, hrec]
      rfl
    have hset : ∀ r, setPoint { s with job := some j', zones := new } j' r = setPoint s j' r :=
      fun r => setPoint_congr (s := s) (t := { s with job := some j', zones := new })
        (recomputed_coverageAt fun r _ hr => hkeep r (beq_iff_eq.mp hr)) rfl j' r
    refine ⟨j', { s with job := some j', zones := new }, setSweep_eq j _ _, rfl, forall₂_map fun r _ => ?_,
      htaken.exec_plain (by decide) ?_⟩
    · by_cases hru : r.unit = u.toNat
      · rw [if_pos hru, if_pos (beq_iff_eq.mpr hru), hset]
        exact ⟨setPoint_onlySetPoint s j' r, hkeep r hru, setPoint_setPoint s j' r⟩
      · rw [if_neg hru, if_neg (fun e => hru (beq_iff_eq.mp e))]
    · refine hbody.trans ((if_neg (hconfigured.mpr hc)).trans ((if_neg (by omega)).trans ?_))
      simp only [hj, hrec]
      rfl

/-! ### TAKE JOB -/

/-- The stream of a job read at the place of a zone (R38). -/
theorem streamAt_eq (s : State) {units : List Nat} (stream : List Nat) {u z : Nat} (hz : 1 ≤ z) (hzk : z ≤ s.zonesOf u) :
    streamAt s.zonesOf units stream u z = if u ∈ units then stream[streamPlace s units u z]? else none := by
  induction units generalizing stream with
  | nil => rfl
  | cons v rest ih =>
    rw [streamAt]
    by_cases hv : v = u
    · subst hv
      rw [if_pos rfl, if_neg (by omega), if_pos List.mem_cons_self, streamPlace, List.takeWhile_cons_of_neg (by simp)]
      simp only [List.map_nil, List.sum_nil, Nat.zero_add]
    · have hne : (v != u) = true := by simpa using hv
      have hplace : s.zonesOf v + streamPlace s rest u z = streamPlace s (v :: rest) u z := by
        rw [streamPlace, streamPlace, List.takeWhile_cons_of_pos (p := fun v => v != u) hne, List.map_cons, List.sum_cons]
        omega
      rw [if_neg hv, ih, List.getElem?_drop, hplace]
      simp only [List.mem_cons, Ne.symm hv, false_or]

/-- The least of a list of numbers, all at most 15 (R45). -/
theorem lowestCurve_eq {ps : List UnitParams} {k : Nat} (hmem : ∃ p ∈ ps, p.curve = k) (hle : ∀ p ∈ ps, k ≤ p.curve)
    (h15 : k ≤ 15) : lowestCurve ps = k := by
  have hfold : ∀ (l : List Nat) (a : Nat), k ≤ a → (∀ x ∈ l, k ≤ x) → (k = a ∨ k ∈ l) → l.foldl min a = k := by
    intro l
    induction l with
    | nil => exact fun a _ _ h => (h.resolve_right List.not_mem_nil).symm
    | cons x l ih =>
      intro a ha hl h
      have hx : k ≤ x := hl x List.mem_cons_self
      refine ih _ (le_min ha hx) (fun y hy => hl y (List.mem_cons_of_mem x hy)) ?_
      rcases h with rfl | h
      · exact .inl (min_eq_left hx).symm
      · rcases List.mem_cons.mp h with rfl | h
        · exact .inl (min_eq_right ha).symm
        · exact .inr h
  refine hfold _ 15 h15 (fun x hx => ?_) (.inr ?_)
  · obtain ⟨p, hp, rfl⟩ := List.mem_map.mp hx
    exact hle p hp
  · obtain ⟨p, hp, rfl⟩ := hmem
    exact List.mem_map_of_mem hp

theorem takeJobBody_of_complete {s : State} {c : Stage} (h : s.slot = .complete c) (ws : List Word) :
    takeJobBody ws s =
      if (undefinedUses s c).isEmpty = true then
        accept (((s.take c).1.post .jobTaken).handBatch (s.take c).2)
          [uword c.jobNo, uword s.jobNo, uword (s.take c).2.length]
      else refuse s .curveMissing [uword (lowestCurve (undefinedUses s c)), uword (undefinedUses s c).length] := by
  rw [takeJobBody, h]

theorem takeJobBody_of_not_complete {s : State} (h : completed s.slot = none) (ws : List Word) :
    takeJobBody ws s = refuse s .notReady [num (slotNumber s.slot)] := by
  rw [takeJobBody, ← slotCode_eq_slotNumber]
  cases hslot : s.slot with
  | complete c => rw [hslot] at h; cases h
  | _ => rfl

/-- The records a taken job computes from: trims at 0 and the coverage of the stream (R46). -/
def takenZones (s : State) (c : Stage) : List ZoneRec := s.zones.map (takenRecord s.zonesOf c)

/-- The records after a job is taken (R46). -/
theorem take_zones (s : State) (c : Stage) :
    (s.take c).1.zones = (takenZones s c).map (setPoint { s with zones := takenZones s c } c.asJob) := by
  rfl

/-- A taken record's coverage is that of the stream (R38, R46). -/
theorem takenRecord_coverage {s : State} (hrecords : RecordsOk s) (c : Stage) {r : ZoneRec} (hr : r ∈ s.zones) :
    (takenRecord s.zonesOf c r).coverage =
      if r.unit ∈ c.units then c.stream[streamPlace s c.units r.unit r.zone]? else none := by
  obtain ⟨-, -, -, hz, hzk⟩ := records_unit_of_mem hrecords hr
  exact streamAt_eq s c.stream hz hzk

/-- The computation of a taken job keeps every coverage: a used unit's by the chain, an unused one's because it is absent. -/
theorem taken_coverage {s : State} (hrecords : RecordsOk s) {c : Stage} (hall : AllRecorded c.units c.records) {r : ZoneRec}
    (hr : r ∈ s.zones) (t : State) :
    (setPoint t c.asJob (takenRecord s.zonesOf c r)).coverage = (takenRecord s.zonesOf c r).coverage := by
  by_cases hu : r.unit ∈ c.units
  · obtain ⟨p, hp, -⟩ := record?_of_used (j := c.asJob) hall hu
    exact setPoint_coverage_of_used (r := takenRecord s.zonesOf c r) hp
  · rw [setPoint_coverage_of_unused (r := takenRecord s.zonesOf c r) (record?_of_not_used hu),
      takenRecord_coverage hrecords c hr, if_neg hu]

/-- Settles O26: the refusals in order, and the staged job with its coverage, its targets and its batch. -/
theorem takeJobMakesTheStagedJobActive : Obligations.TakeJobMakesTheStagedJobActive := by
  intro s f hfree hf hdevice hrecords hslot
  have htaken : Taken .takeJob f [] s := hf.taken hfree rfl rfl (fun _ => hdevice) (by decide)
  refine ⟨fun h => htaken.exec_refused nofun (takeJobBody_of_not_complete h []), ?_⟩
  intro c hc undefined
  have hbody := takeJobBody_of_complete hc []
  have hcontent : c ∈ s.slot.content := by rw [hc]; rfl
  have hcompleted : c ∈ completed s.slot := by rw [hc]; rfl
  obtain ⟨hstage, hcomplete⟩ := hslot
  obtain ⟨-, -, -, -, -, hlisted⟩ := hstage c hcontent
  obtain ⟨-, hall⟩ := hcomplete c hcompleted
  refine ⟨fun k hk hle => htaken.exec_refused nofun ?_, fun hnone => ?_⟩
  · have hne : ¬ (undefinedUses s c).isEmpty = true := by
      obtain ⟨p, hp, -⟩ := hk
      rw [List.isEmpty_iff]
      exact List.ne_nil_of_mem hp
    have h15 : k ≤ 15 := by
      obtain ⟨p, hp, rfl⟩ := hk
      obtain ⟨-, hcurve, -⟩ := hlisted p (List.mem_filter.mp hp).1
      exact hcurve
    refine (hbody.trans (if_neg hne)).trans ?_
    rw [lowestCurve_eq (ps := undefinedUses s c) hk hle h15]
    rfl
  · have hset : ∀ r, setPoint (s.take c).1 c.asJob r = setPoint { s with zones := takenZones s c } c.asJob r := by
      refine fun r => setPoint_congr (s := { s with zones := takenZones s c }) (t := (s.take c).1) ?_ rfl c.asJob r
      rw [take_zones]
      refine coverageAt_map (setPoint_place _ _) fun q hq => ?_
      obtain ⟨r, hr, rfl⟩ := List.mem_map.mp hq
      exact taken_coverage hrecords hall hr _
    refine ⟨(s.take c).1, rfl, ?_, htaken.exec_plain (by decide) ((hbody.trans (if_pos ?_)).trans ?_)⟩
    · rw [take_zones, takenZones, List.map_map]
      refine forall₂_map fun r hr => ⟨?_, ?_, ?_, ?_⟩
      · have hframe := setPoint_frame { s with zones := takenZones s c } c.asJob (takenRecord s.zonesOf c r)
        exact hframe
      · exact (taken_coverage hrecords hall hr _).trans (takenRecord_coverage hrecords c hr)
      · obtain ⟨t, ht, -⟩ := setPoint_target { s with zones := takenZones s c } c.asJob (takenRecord s.zonesOf c r)
        rw [Function.comp_apply]
        exact Option.isSome_iff_exists.mpr ⟨t, ht⟩
      · exact (hset _).trans (setPoint_setPoint _ _ _)
    · exact List.isEmpty_iff.mpr hnone
    · have hjobNo : s.jobNo = s.job.elim 0 ActiveJob.jobNo := by
        rw [State.jobNo]
        cases s.job <;> rfl
      rw [hjobNo]
      rfl

end Sys2Proof.Claims
end

section
/-! PROOF. Entering a key state, the evaluation of a zone at rest and the tests that follow an event (R51, R106, R107, R110,
R111, R127, R159, R160). -/

namespace Sys2Proof.Claims

open Sys2Proof.Machine Sys2Proof.Safety

/-! ### Zone records written -/

theorem zoneSet_eq (s : State) (u z : Nat) (f : ZoneRec → ZoneRec) : (s.modZone u z f).zones = zoneSet s u z f := by
  simp only [State.modZone, zoneSet, ZoneRec.isZone_iff]

/-- A change of one record is its table written. -/
theorem modZone_eq (s : State) (u z : Nat) (f : ZoneRec → ZoneRec) : s.modZone u z f = { s with zones := zoneSet s u z f } := by
  rw [← zoneSet_eq]
  rfl

theorem rest_eq_atRest (k : KeyState) (cause : Option FaultCause) (r : ZoneRec) : r.rest k cause = atRest k cause r := by
  rfl

/-- Two changes of one record are one. -/
theorem modZone_modZone (s : State) (u z : Nat) {f : ZoneRec → ZoneRec} (h : ∀ r, place (f r) = place r)
    (g : ZoneRec → ZoneRec) : (s.modZone u z f).modZone u z g = s.modZone u z (fun r => g (f r)) := by
  simp only [State.modZone, List.map_map]
  refine congrArg (fun l => ({ s with zones := l } : State)) (List.map_congr_left fun r _ => ?_)
  have hplace : (f r).isZone u z = r.isZone u z := by rw [Bool.eq_iff_iff, isZone_iff_place, isZone_iff_place, h]
  rw [Function.comp_apply]
  by_cases hz : r.isZone u z = true
  · rw [if_pos hz, if_pos (hplace.trans hz)]
    exact (if_pos hz).symm
  · rw [if_neg hz, if_neg hz]
    exact (if_neg hz).symm

/-- The record of a zone after a change of it. -/
theorem zone?_modZone_same {s : State} {u z : Nat} {f : ZoneRec → ZoneRec} (h : ∀ r, place (f r) = place r) {r : ZoneRec}
    (hr : s.zone? u z = some r) : (s.modZone u z f).zone? u z = some (f r) := by
  rw [s.zone?_modZone u z u z f (fun q => place_eq_iff.mp (h q)), if_pos ⟨rfl, rfl⟩, hr, Option.map_some]

/-! ### The parts of entering a key state -/

/-- A QUEUED zone leaves its queue (R111). -/
def leaveQueue (r : ZoneRec) (u z : Nat) (s : State) : State := if r.state = .queued then s.dequeue u z else s

/-- A zone that becomes QUEUED joins the tail of its queue (R111). -/
def joinQueue (k : KeyState) (u z : Nat) (s : State) : State := if k = .queued then s.enqueue u z else s

/-- KEY_ALERT for BLOCKED, FAULTED and MISSED (R127). -/
def postAlert (k : KeyState) (s : State) : State := if k.alerts = true then s.post .keyAlert else s

/-- SURVEY_DONE when the last zone leaves UNKNOWN (R110). -/
def postSurvey (r : ZoneRec) (k : KeyState) (s : State) : State :=
  if r.state = .unknown ∧ k ≠ .unknown ∧ s.noneUnknown = true then s.post .surveyDone else s

theorem enter_eq {s : State} {u z : Nat} {r : ZoneRec} (h : s.zone? u z = some r) (k : KeyState) (cause : Option FaultCause)
    (g : ZoneRec → ZoneRec) :
    s.enter u z k cause g =
      postSurvey r k (postAlert k (joinQueue k u z (leaveQueue r u z (s.modZone u z fun q => g (atRest k cause q))))) := by
  rw [State.enter, h]
  rfl

theorem enter_of_none {s : State} {u z : Nat} (h : s.zone? u z = none) (k : KeyState) (cause : Option FaultCause)
    (g : ZoneRec → ZoneRec) : s.enter u z k cause g = s := by
  rw [State.enter, h]

section
variable (r : ZoneRec) (k : KeyState) (u z v : Nat) (s : State)

@[simp] theorem leaveQueue_zones : (leaveQueue r u z s).zones = s.zones := by unfold leaveQueue; split_ifs <;> rfl
@[simp] theorem leaveQueue_ports : (leaveQueue r u z s).ports = s.ports := by unfold leaveQueue; split_ifs <;> rfl
@[simp] theorem leaveQueue_supply : (leaveQueue r u z s).supply = s.supply := by unfold leaveQueue; split_ifs <;> rfl
@[simp] theorem leaveQueue_preset : (leaveQueue r u z s).preset = s.preset := by unfold leaveQueue; split_ifs <;> rfl
@[simp] theorem leaveQueue_clock : (leaveQueue r u z s).clock = s.clock := by unfold leaveQueue; split_ifs <;> rfl
@[simp] theorem joinQueue_zones : (joinQueue k u z s).zones = s.zones := by unfold joinQueue; split_ifs <;> simp
@[simp] theorem joinQueue_ports : (joinQueue k u z s).ports = s.ports := by unfold joinQueue; split_ifs <;> simp
@[simp] theorem joinQueue_preset : (joinQueue k u z s).preset = s.preset := by unfold joinQueue; split_ifs <;> simp
@[simp] theorem postAlert_zones : (postAlert k s).zones = s.zones := by unfold postAlert; split_ifs <;> simp
@[simp] theorem postAlert_queues : (postAlert k s).queues = s.queues := by unfold postAlert; split_ifs <;> simp
@[simp] theorem postAlert_supply : (postAlert k s).supply = s.supply := by unfold postAlert; split_ifs <;> simp
@[simp] theorem postAlert_preset : (postAlert k s).preset = s.preset := by unfold postAlert; split_ifs <;> simp
@[simp] theorem postSurvey_zones : (postSurvey r k s).zones = s.zones := by unfold postSurvey; split_ifs <;> simp
@[simp] theorem postSurvey_queues : (postSurvey r k s).queues = s.queues := by unfold postSurvey; split_ifs <;> simp
@[simp] theorem postSurvey_supply : (postSurvey r k s).supply = s.supply := by unfold postSurvey; split_ifs <;> simp
@[simp] theorem postSurvey_preset : (postSurvey r k s).preset = s.preset := by unfold postSurvey; split_ifs <;> simp

theorem leaveQueue_of_not_queued {r : ZoneRec} (h : r.state ≠ .queued) : leaveQueue r u z s = s := if_neg h
theorem joinQueue_of_not_queued {k : KeyState} (h : k ≠ .queued) : joinQueue k u z s = s := if_neg h

theorem leaveQueue_queue (hu : 1 ≤ u) (hu8 : u ≤ 8) :
    (leaveQueue r u z s).queue v =
      if v = u then (if r.state = .queued then (s.queue u).filter (fun y => y != z) else s.queue u) else s.queue v := by
  unfold leaveQueue
  split_ifs with hq hv hv
  · rw [State.queue_dequeue, if_pos ⟨hv, hu, hu8⟩]
  · rw [State.queue_dequeue, if_neg (fun h => hv h.1)]
  · rw [hv]
  · rfl

theorem joinQueue_queue (hu : 1 ≤ u) (hu8 : u ≤ 8) :
    (joinQueue k u z s).queue v = if v = u then s.queue u ++ (if k = .queued then [z] else []) else s.queue v := by
  unfold joinQueue
  split_ifs with hq hv hv
  · rw [State.queue_enqueue, if_pos ⟨hv, hu, hu8⟩]
  · rw [State.queue_enqueue, if_neg (fun h => hv h.1)]
  · rw [hv, List.append_nil]
  · rfl

end

/-! ### Entering a key state -/

section
variable {s : State} {u z : Nat} {r : ZoneRec} (h : s.zone? u z = some r) (k : KeyState) (cause : Option FaultCause)
  (g : ZoneRec → ZoneRec)
include h

theorem enter_zones : (s.enter u z k cause g).zones = zoneSet s u z (fun q => g (atRest k cause q)) := by
  rw [enter_eq h, postSurvey_zones, postAlert_zones, joinQueue_zones, leaveQueue_zones, zoneSet_eq]

theorem enter_preset : (s.enter u z k cause g).preset = s.preset := by
  rw [enter_eq h, postSurvey_preset, postAlert_preset, joinQueue_preset, leaveQueue_preset, State.modZone_preset]

/-- The queues are those of the zone's leaving and joining. -/
theorem enter_queues :
    (s.enter u z k cause g).queues = (joinQueue k u z (leaveQueue r u z (s.modZone u z fun q => g (atRest k cause q)))).queues := by
  rw [enter_eq h, postSurvey_queues, postAlert_queues]

/-- The queue of a unit that a zone leaves (R111). -/
theorem enter_queue (hu : 1 ≤ u) (hu8 : u ≤ 8) (v : Nat) :
    (s.enter u z k cause g).queue v =
      if v = u then
        (if r.state = .queued then (s.queue u).filter (fun y => y != z) else s.queue u) ++ (if k = .queued then [z] else [])
      else s.queue v := by
  have hqueue : (s.enter u z k cause g).queue v =
      (joinQueue k u z (leaveQueue r u z (s.modZone u z fun q => g (atRest k cause q)))).queue v :=
    congrArg (fun q => at1 q v []) (enter_queues h k cause g)
  rw [hqueue, joinQueue_queue k u z v _ hu hu8, leaveQueue_queue r u z u _ hu hu8, if_pos rfl,
    leaveQueue_queue r u z v _ hu hu8]
  by_cases hv : v = u
  · rw [if_pos hv, if_pos hv]
    rfl
  · rw [if_neg hv, if_neg hv, if_neg hv]
    rfl

/-- A zone that neither leaves a queue nor joins one leaves the queues as they are. -/
theorem enter_queues_same (hr : r.state ≠ .queued) (hk : k ≠ .queued) : (s.enter u z k cause g).queues = s.queues := by
  rw [enter_queues h, joinQueue_of_not_queued _ _ _ hk, leaveQueue_of_not_queued _ _ _ hr, State.modZone_queues]

/-- Only a zone that joins its queue changes the supply (R159, R160). -/
theorem enter_supply_same (hk : k ≠ .queued) : (s.enter u z k cause g).supply = s.supply := by
  rw [enter_eq h, postSurvey_supply, postAlert_supply, joinQueue_of_not_queued _ _ _ hk, leaveQueue_supply,
    State.modZone_supply]

theorem enter_supply_queued (hu : 1 ≤ u) (hu8 : u ≤ 8) :
    (s.enter u z .queued cause g).supply =
      if s.supply.state = .off ∧ (if r.state = .queued then (s.queue u).filter (fun y => y != z) else s.queue u) = [] then
        if s.supply.ok.filtered then { s.supply with state := .on, warmUp := none, standby := none }
        else { s.supply with state := .warming, warmUp := some s.clock.now.ms, standby := none }
      else { s.supply with standby := none } := by
  have hleft := leaveQueue_queue r u z u (s.modZone u z fun q => g (atRest .queued cause q)) hu hu8
  rw [if_pos rfl] at hleft
  rw [enter_eq h, postSurvey_supply, postAlert_supply, joinQueue, if_pos rfl, State.supply_enqueue, hleft, leaveQueue_supply,
    leaveQueue_clock]
  rfl

/-- The notices of entering a key state: KEY_ALERT, and SURVEY_DONE of the last zone to leave UNKNOWN (R110, R127). -/
theorem enter_ports :
    (s.enter u z k cause g).ports =
      (postSurvey r k (postAlert k { s with zones := zoneSet s u z (fun q => g (atRest k cause q)) })).ports := by
  have hports : ∀ a b : State, a.ports = b.ports → a.zones = b.zones →
      (postSurvey r k (postAlert k a)).ports = (postSurvey r k (postAlert k b)).ports := by
    intro a b hab hz
    have hpost : ∀ (n : Notice) {a b : State}, a.ports = b.ports → (a.post n).ports = (b.post n).ports := by
      rintro n ⟨⟩ ⟨⟩ rfl
      cases n <;> rfl
    have halert : (postAlert k a).ports = (postAlert k b).ports := by
      unfold postAlert
      split_ifs
      exacts [hpost _ hab, hab]
    have hnone : (postAlert k a).noneUnknown = (postAlert k b).noneUnknown := by
      rw [State.noneUnknown, State.noneUnknown, postAlert_zones, postAlert_zones, hz]
    unfold postSurvey
    rw [hnone]
    split_ifs
    exacts [hpost _ halert, halert]
  rw [enter_eq h]
  exact hports _ _ (by rw [joinQueue_ports, leaveQueue_ports, State.modZone_ports])
    (by rw [joinQueue_zones, leaveQueue_zones, zoneSet_eq])

/-- The record of a zone after it enters a key state. -/
theorem enter_zone? (hg : ∀ q, place (g q) = place q) :
    (s.enter u z k cause g).zone? u z = some (g (atRest k cause r)) := by
  have hzone : (s.enter u z k cause g).zone? u z = (s.modZone u z fun q => g (atRest k cause q)).zone? u z := by
    rw [State.zone?, enter_zones h, ← zoneSet_eq]
    rfl
  rw [hzone]
  exact zone?_modZone_same (f := fun q => g (atRest k cause q)) (fun q => hg _) h

end

/-- A record's own change before it enters a key state is one with the change after. -/
theorem enter_modZone {s : State} {u z : Nat} {k : KeyState} {cause : Option FaultCause} {f g g' : ZoneRec → ZoneRec}
    (hf : ∀ q, place (f q) = place q) (hstate : ∀ q, (f q).state = q.state)
    (hg : ∀ q, g (atRest k cause (f q)) = g' (atRest k cause q)) :
    (s.modZone u z f).enter u z k cause g = s.enter u z k cause g' := by
  cases hz : s.zone? u z with
  | none =>
    have hnone : (s.modZone u z f).zone? u z = none := by
      rw [s.zone?_modZone u z u z f (fun q => place_eq_iff.mp (hf q)), if_pos ⟨rfl, rfl⟩, hz]
      rfl
    have hsame : s.modZone u z f = s := by
      refine congrArg (fun l => ({ s with zones := l } : State)) ((List.map_congr_left fun q hq => ?_).trans (List.map_id _))
      have hq' := List.find?_eq_none.mp hz q hq
      exact if_neg hq'
    rw [enter_of_none hnone, enter_of_none hz, hsame]
  | some r =>
    rw [enter_eq (zone?_modZone_same hf hz), enter_eq hz, modZone_modZone s u z hf]
    simp only [hg]
    unfold postSurvey leaveQueue
    rw [hstate r]

/-! ### Notices -/

theorem alerts_iff (k : KeyState) : k.alerts = true ↔ k = .blocked ∨ k = .faulted ∨ k = .missed := by
  cases k <;> decide

/-- Posting no kind changes nothing. -/
theorem notices_or_zero (c : PortCtl) : { c with notices := c.notices ||| 0 } = c := by
  have h : c.notices ||| 0 = c.notices := BitVec.or_zero
  rw [h]

theorem mem_noticePorts_keyAlert {p : Port} : p ∈ noticePorts .keyAlert ↔ p ≠ .job := by
  cases p <;> decide

theorem mem_noticePorts_surveyDone {p : Port} : p ∈ noticePorts .surveyDone ↔ p = .console := by
  cases p <;> decide

/-- The notice sets after KEY_ALERT and SURVEY_DONE are posted where they are due. -/
theorem postAlert_port (k : KeyState) (s : State) (p : Port) :
    (postAlert k s).port p =
      { s.port p with
        notices := (s.port p).notices ||| (if p = .job then 0
          else if k = .blocked ∨ k = .faulted ∨ k = .missed then 16 else 0) } := by
  unfold postAlert
  simp only [alerts_iff]
  split_ifs with ha hp hp
  · rw [State.post_port, if_neg (fun h => mem_noticePorts_keyAlert.mp h hp), notices_or_zero]
  · rw [State.post_port, if_pos (mem_noticePorts_keyAlert.mpr hp)]
    rfl
  · rw [notices_or_zero]
  · rw [notices_or_zero]

theorem noneUnknown_iff (s : State) : s.noneUnknown = true ↔ ∀ q ∈ s.zones, q.state ≠ .unknown := by
  simp only [State.noneUnknown, List.all_eq_true, bne_iff_ne]

theorem postSurvey_port (r : ZoneRec) (k : KeyState) (s : State) (p : Port) :
    (postSurvey r k s).port p =
      if p = .console ∧ r.state = .unknown ∧ k ≠ .unknown ∧ (∀ q ∈ s.zones, q.state ≠ .unknown) then
        { s.port p with notices := (s.port p).notices ||| 32 }
      else s.port p := by
  unfold postSurvey
  simp only [noneUnknown_iff]
  by_cases hs : r.state = .unknown ∧ k ≠ .unknown ∧ ∀ q ∈ s.zones, q.state ≠ .unknown
  · rw [if_pos hs, State.post_port]
    by_cases hp : p = .console
    · rw [if_pos (mem_noticePorts_surveyDone.mpr hp), if_pos ⟨hp, hs⟩]
      rfl
    · rw [if_neg (fun h => hp (mem_noticePorts_surveyDone.mp h)), if_neg (fun h => hp h.1)]
  · rw [if_neg hs, if_neg (fun h => hs h.2)]

/-- Settles O43: the record, the queues, the notices and the supply of entering a key state. -/
theorem enteringAKeyState : Obligations.EnteringAKeyState := by
  intro s u z k cause g r hk hu hu8 hr hg t stays alert surveyed
  have hzones : t.zones = zoneSet s u z (fun q => g (atRest k cause q)) := enter_zones hr k cause g
  have hmoves : Moves s t := moves_enter s u z k cause g fun q => ⟨(hg q).1, (hg q).2.1⟩
  have hpreset : t.preset = s.preset := enter_preset hr k cause g
  have hport : ∀ p, t.port p =
      if p = .console ∧ surveyed then
        { s.port p with notices := (s.port p).notices ||| (if p = .job then 0 else alert) ||| 32 }
      else { s.port p with notices := (s.port p).notices ||| (if p = .job then 0 else alert) } := by
    intro p
    have h1 : t.port p = (postSurvey r k (postAlert k { s with zones := t.zones })).port p := by
      rw [hzones]
      exact congrArg (fun ps => Ports.get ps p) (enter_ports hr k cause g)
    rw [h1, postSurvey_port, postAlert_port, postAlert_zones]
    rfl
  refine ⟨?_, hzones, fun v => enter_queue hr k cause g hu hu8 v, fun hs => ?_, fun hs => ?_, ?_, ?_, fun hq => ?_,
    fun hq => ⟨fun hoff hstays => ?_, fun hon => ?_⟩⟩
  · have hrest := hmoves.rest
    rwa [hpreset] at hrest
  · rw [hport, if_pos ⟨rfl, hs⟩]
    rfl
  · rw [hport, if_neg (fun h => hs h.2)]
    rfl
  · rw [hport, if_neg (fun h => nomatch h.1)]
    rfl
  · rw [hport, if_neg (fun h => nomatch h.1), if_pos rfl]
    exact notices_or_zero _
  · exact enter_supply_same hr k cause g hq
  · subst hq
    exact (enter_supply_queued hr cause g hu hu8).trans (if_pos ⟨hoff, hstays⟩)
  · subst hq
    refine (enter_supply_queued hr cause g hu hu8).trans (if_neg ?_)
    rintro ⟨h1, h2⟩
    exact hon.elim (fun h => h h1) (fun h => h h2)

/-! ### The evaluation of a zone at rest -/

/-- The distance of position and target, and the tolerance test (R107). -/
theorem natAbs_eq_distance (p t : Nat) : ((p : Int) - (t : Int)).natAbs = distance p t := by
  unfold distance
  omega

theorem within_eq {s : State} {r : ZoneRec} {p t : Nat} (hp : r.measured = some p) (ht : r.target = some t) :
    s.within r = decide (distance p t ≤ s.limits.tolerance) := by
  simp only [State.within, hp, ht, natAbs_eq_distance]

section
variable {s : State} {u z : Nat} {r : ZoneRec} (h : s.zone? u z = some r)
include h

theorem evaluate_eq :
    s.evaluate u z =
      if r.target.isNone then s.enter u z .idle none (fun r => { r with retries := 0 })
      else if r.measured.isNone then s
      else if s.within r then
        s.enter u z .settled none
          (fun q => { q with retries := 0, settleStamp := if r.state = .settled then q.settleStamp else some s.press.sheets })
      else s.enter u z .queued none (fun r => { r with retries := 0 }) := by
  rw [State.evaluate, h]

theorem evaluate_of_no_target (ht : r.target = none) :
    s.evaluate u z = s.enter u z .idle none (fun q => { q with retries := 0 }) := by
  rw [evaluate_eq h, ht]
  rfl

theorem evaluate_of_near {p t : Nat} (hp : r.measured = some p) (ht : r.target = some t)
    (hd : distance p t ≤ s.limits.tolerance) :
    s.evaluate u z = s.enter u z .settled none (fun q => { q with
      retries := 0, settleStamp := if r.state = .settled then q.settleStamp else some s.press.sheets }) := by
  rw [evaluate_eq h, within_eq hp ht, hp, ht, decide_eq_true hd]
  rfl

theorem evaluate_of_far {p t : Nat} (hp : r.measured = some p) (ht : r.target = some t)
    (hd : s.limits.tolerance < distance p t) :
    s.evaluate u z = s.enter u z .queued none (fun q => { q with retries := 0 }) := by
  rw [evaluate_eq h, within_eq hp ht, hp, ht, decide_eq_false (not_le.mpr hd)]
  rfl

end

/-! ### The tests after an event -/

/-- The standby timer starts (R160). -/
def StandbyStarts (s : State) : Prop :=
  (s.supply.state = .on ∧ (∀ q ∈ s.queues.toList, q = []) ∧ ∀ r ∈ s.zones, r.state ≠ .moving) ∧
    s.supply.standby = none ∧ s.limits.standbyS ≠ 0

theorem standbyStarts_iff (s : State) :
    (s.standbyCondition && s.supply.standby.isNone && s.limits.standbyS != 0) = true ↔ StandbyStarts s := by
  rw [StandbyStarts, ← standbyCondition_iff]
  simp only [Bool.and_eq_true, Option.isNone_iff_eq_none, bne_iff_ne, and_assoc]

theorem standbyRefresh_of_starts {s : State} (h : StandbyStarts s) :
    s.standbyRefresh =
      { s with supply := { s.supply with standby := some ⟨s.clock.now.ms, s.limits.standbyS * 1000⟩ } } :=
  if_pos ((standbyStarts_iff s).mpr h)

theorem standbyRefresh_of_not_starts {s : State} (h : ¬ StandbyStarts s) : s.standbyRefresh = s :=
  if_neg fun e => h ((standbyStarts_iff s).mp e)

theorem presetOver_iff (s : State) :
    (s.preset && s.zones.all (fun r => r.state != .queued && r.state != .moving && r.state != .unknown)) = true ↔
      s.preset = true ∧ presetOver s.zones := by
  simp only [presetOver, Bool.and_eq_true, List.all_eq_true, bne_iff_ne, and_assoc]

theorem presetTest_of_over {s : State} (h : s.preset = true ∧ presetOver s.zones) :
    s.presetTest = { s.post .presetDone with preset := false } :=
  if_pos ((presetOver_iff s).mpr h)

theorem presetTest_of_not_over {s : State} (h : ¬ (s.preset = true ∧ presetOver s.zones)) : s.presetTest = s :=
  if_neg fun e => h ((presetOver_iff s).mp e)

@[simp] theorem presetTest_zones (s : State) : s.presetTest.zones = s.zones := by
  unfold State.presetTest
  split_ifs <;> simp
@[simp] theorem presetTest_queues (s : State) : s.presetTest.queues = s.queues := by
  unfold State.presetTest
  split_ifs <;> simp
@[simp] theorem presetTest_supply (s : State) : s.presetTest.supply = s.supply := by
  unfold State.presetTest
  split_ifs <;> simp

@[simp] theorem settle_zones (s : State) : s.settle.zones = s.zones := by simp [State.settle]
@[simp] theorem settle_queues (s : State) : s.settle.queues = s.queues := by simp [State.settle]
@[simp] theorem settle_zone? (s : State) (u z : Nat) : s.settle.zone? u z = s.zone? u z := by simp [State.zone?]
@[simp] theorem settle_queue (s : State) (u : Nat) : s.settle.queue u = s.queue u := by simp [State.queue]

theorem settle_supply (s : State) : s.settle.supply = s.standbyRefresh.supply := by
  rw [State.settle, presetTest_supply]

@[simp] theorem settle_supply_state (s : State) : s.settle.supply.state = s.supply.state := by
  rw [settle_supply]
  unfold State.standbyRefresh
  split_ifs <;> rfl

/-- Settles O44: the three outcomes of an evaluation, and the two tests by their conditions. -/
theorem evaluationAndTheTestsThatFollow : Obligations.EvaluationAndTheTestsThatFollow := by
  refine ⟨fun s u z r h => ⟨evaluate_of_no_target h, fun p t hp ht => ⟨evaluate_of_near h hp ht, evaluate_of_far h hp ht⟩⟩, ?_⟩
  intro s standby starts
  refine ⟨s.standbyRefresh.supply.standby, fun h => ?_, fun h => ?_, ?_⟩
  · rw [standbyRefresh_of_starts h]
  · rw [standbyRefresh_of_not_starts h]
  · have hrefresh : s.standbyRefresh =
        { s with supply := { s.supply with standby := s.standbyRefresh.supply.standby } } := by
      unfold State.standbyRefresh
      split_ifs <;> rfl
    rw [← hrefresh]
    refine ⟨fun h1 h2 => ?_, fun h => ?_⟩
    · exact presetTest_of_over (s := s.standbyRefresh) (by rw [State.standbyRefresh_preset, State.standbyRefresh_zones]; exact ⟨h1, h2⟩)
    · exact presetTest_of_not_over (s := s.standbyRefresh) (by rwa [State.standbyRefresh_preset, State.standbyRefresh_zones])

end Sys2Proof.Claims
end

section
/-! PROOF. Zone service and calibration: DISABLE, ENABLE and RELEASE ZONE, SET KEY CAL and READ ECHO (R81 to R86). -/

namespace Sys2Proof.Claims

open Sys2Proof.Machine Sys2Proof.Safety

/-! ### A key state entered, and the tests that follow -/

/-- What the Move Scheduler's operations may change, in the words of the statements. -/
theorem onlyScheduler_of_moves {s t : State} (h : Moves s t) : OnlyScheduler s t :=
  ⟨h.rest, h.ports, h.ok⟩

/-- A change of a record that keeps its place. -/
def KeepsPlace (g : ZoneRec → ZoneRec) : Prop := ∀ q, place (g q) = place q

theorem moves_enter_settle {s : State} {u z : Nat} {k : KeyState} {cause : Option FaultCause} {g : ZoneRec → ZoneRec}
    (hg : KeepsPlace g) : Moves s (s.enter u z k cause g).settle :=
  (moves_enter s u z k cause g fun q => place_eq_iff.mp (hg q)).trans (moves_settle _)

section
variable {s : State} {u z : Nat} {r : ZoneRec} (h : s.zone? u z = some r) (k : KeyState) (cause : Option FaultCause)
  {g : ZoneRec → ZoneRec}
include h

theorem enter_settle_zones : (s.enter u z k cause g).settle.zones = zoneSet s u z (fun q => g (atRest k cause q)) := by
  rw [settle_zones, enter_zones h]

theorem enter_settle_queues (hr : r.state ≠ .queued) (hk : k ≠ .queued) :
    (s.enter u z k cause g).settle.queues = s.queues := by
  rw [settle_queues, enter_queues_same h k cause g hr hk]

theorem enter_settle_queue (hu : 1 ≤ u) (hu8 : u ≤ 8) :
    OnlyQueue s (s.enter u z k cause g).settle u
      ((if r.state = .queued then (s.queue u).filter (fun y => y != z) else s.queue u) ++ (if k = .queued then [z] else [])) := by
  intro v
  rw [settle_queue, enter_queue h k cause g hu hu8]

/-- A zone that joins no queue at most leaves its own (R111). -/
theorem enter_settle_queue_left (hu : 1 ≤ u) (hu8 : u ≤ 8) (hk : k ≠ .queued) :
    OnlyQueue s (s.enter u z k cause g).settle u
      (if r.state = .queued then (s.queue u).filter (fun y => y != z) else s.queue u) := by
  intro v
  rw [enter_settle_queue h k cause hu hu8 v, if_neg hk, List.append_nil]

theorem enter_settle_state (hk : k ≠ .queued) : (s.enter u z k cause g).settle.supply.state = s.supply.state := by
  rw [settle_supply_state, enter_supply_same h k cause g hk]

/-- The record the answer of a zone request tells of. -/
theorem enter_settle_zone? (hg : KeepsPlace g) :
    (s.enter u z k cause g).settle.zone? u z = some (g (atRest k cause r)) := by
  rw [settle_zone?, enter_zone? h k cause g hg]

theorem codeAt_eq : s.codeAt u z = num (keyNumber r.state) := by
  rw [State.codeAt, h, ← keyStateCode_eq_keyNumber]
  rfl

theorem enter_settle_codeAt (hg : KeepsPlace g) (hstate : (g (atRest k cause r)).state = k) :
    (s.enter u z k cause g).settle.codeAt u z = num (keyNumber k) := by
  rw [codeAt_eq (enter_settle_zone? h k cause hg), hstate]

end

/-! ### Requests that name one zone -/

/-- A request of a pair without a record is refused, and of another goes to its own meaning (R5, R75). -/
theorem zoneRequest_of_none {body : Nat → Nat → ZoneRec → State → State × Answer} {s : State} {u z : Word}
    (h : s.zone? u.toNat z.toNat = none) : zoneRequest body [u, z] s = refuse s .badParam [] := by
  have hu : operand [u, z] 0 = u.toNat := rfl
  have hz : operand [u, z] 1 = z.toNat := rfl
  simp only [zoneRequest, hu, hz, h, ite_self]

theorem zoneRequest_of_some {body : Nat → Nat → ZoneRec → State → State × Answer} {s : State} {u z : Word} {r : ZoneRec}
    (hrecords : RecordsOk s) (h : s.zone? u.toNat z.toNat = some r) :
    zoneRequest body [u, z] s = body u.toNat z.toNat r s := by
  have hu : operand [u, z] 0 = u.toNat := rfl
  have hz : operand [u, z] 1 = z.toNat := rfl
  have hvalid : s.validZone u.toNat z.toNat = true := (records_validZone_iff hrecords).mpr (by rw [h]; rfl)
  simp only [zoneRequest, hu, hz, h, hvalid, Bool.not_true, Bool.false_eq_true, if_false]

/-- A zone of the table lies in units 1 to 8. -/
theorem records_unit_of_zone? {s : State} (hrecords : RecordsOk s) {u z : Nat} {r : ZoneRec} (h : s.zone? u z = some r) :
    1 ≤ u ∧ u ≤ 8 := by
  obtain ⟨hr, rfl, -⟩ := State.zone?_some h
  obtain ⟨hu, hu8, -⟩ := records_unit_of_mem hrecords hr
  exact ⟨hu, hu8⟩

/-! ### DISABLE ZONE -/

theorem addDisable_eq (u z : Nat) (s : State) :
    s.addDisable u z = { s with zones := zoneSet s u z (fun q =>
      { q with halts := { q.halts with disable := true }, pollDue := none }) } :=
  modZone_eq s u z _

/-- A zone that is not halting and not DISABLED becomes DISABLED at once (R81). -/
theorem disableZone_at_once {s : State} {u z : Nat} {r : ZoneRec}
    (hhalting : ¬ (r.state = .moving ∨ r.state = .unknown ∧ r.halts.any = true)) (hdisabled : r.state ≠ .disabled) :
    s.disableZone u z r =
      (s.enter u z .disabled none (fun q =>
        { q with
          retries := 0, failures := if r.state = .blocked ∨ r.state = .faulted then 0 else q.failures })).settle := by
  have hcleared : ∀ t : State, ((t.modZone u z (fun r => { r with failures := 0 })).disableAtOnce u z).settle =
      (t.enter u z .disabled none (fun q => { q with retries := 0, failures := 0 })).settle := fun t =>
    congrArg State.settle (enter_modZone (f := fun r => { r with failures := 0 }) (fun _ => rfl) (fun _ => rfl) (fun _ => rfl))
  unfold State.disableZone
  cases hk : r.state with
  | moving => exact absurd (.inl hk) hhalting
  | disabled => exact absurd hk hdisabled
  | unknown =>
    have hany : ¬ r.halts.any = true := fun e => hhalting (.inr ⟨hk, e⟩)
    simp only [if_neg hany]
    rfl
  | blocked | faulted => exact hcleared s
  | idle | settled | queued | missed => rfl

/-- Settles O35: a halting zone gains DISABLE, a DISABLED one stays, every other becomes DISABLED at once. -/
theorem disableZoneByKeyState : Obligations.DisableZoneByKeyState := by
  intro s f u z hfree hf hdevice hrecords
  have htaken : Taken .disableZone f [u, z] s := hf.taken hfree rfl rfl (fun _ => hdevice) (by decide)
  refine ⟨fun h => htaken.exec_refused nofun (zoneRequest_of_none h), ?_⟩
  intro r hr hmotion halting
  have hbody : requestBody .disableZone f [u, z] s = disableZoneBody u.toNat z.toNat r s := zoneRequest_of_some hrecords hr
  refine ⟨fun hhalting => htaken.exec_plain (by decide) (hbody.trans ?_),
    fun hdisabled => htaken.exec_plain (by decide) (hbody.trans ?_), fun hhalting hdisabled => ?_⟩
  · have hadd : s.disableZone u.toNat z.toNat r = s.addDisable u.toNat z.toNat := by
      unfold State.disableZone
      rcases hhalting with hk | ⟨hk, hany⟩
      · rw [hk]
      · simp only [hk, if_pos hany]
    have hzone : (s.addDisable u.toNat z.toNat).zone? u.toNat z.toNat =
        some { r with halts := { r.halts with disable := true }, pollDue := none } :=
      zone?_modZone_same (f := fun q => { q with halts := { q.halts with disable := true }, pollDue := none })
        (fun _ => rfl) hr
    rw [disableZoneBody, hadd, codeAt_eq hzone, hzone, addDisable_eq]
    rfl
  · have hsame : s.disableZone u.toNat z.toNat r = s := by
      unfold State.disableZone
      rw [hdisabled]
    have hhalts : r.halts.disable = false := by
      obtain ⟨-, -, hany, -⟩ := hmotion
      have hnone : ¬ r.halts.any = true := fun e => by
        have := hany e
        rw [hdisabled] at this
        simp at this
      rw [Bool.eq_false_iff]
      exact fun e => hnone (by simp [Halts.any, e])
    rw [disableZoneBody, hsame, codeAt_eq hr, hr, hdisabled, Option.elim_some, hhalts]
    rfl
  · obtain ⟨hu, hu8⟩ := records_unit_of_zone? hrecords hr
    have hat := disableZone_at_once (s := s) (u := u.toNat) (z := z.toNat) hhalting hdisabled
    have hkeeps : KeepsPlace fun q : ZoneRec =>
      { q with retries := 0, failures := if r.state = .blocked ∨ r.state = .faulted then 0 else q.failures } := fun _ => rfl
    refine ⟨s.disableZone u.toNat z.toNat r, htaken.exec_plain (by decide) (hbody.trans ?_), hat, ?_, ?_, ?_, ?_⟩
    · rw [disableZoneBody, hat, enter_settle_codeAt hr .disabled none hkeeps rfl,
        enter_settle_zone? hr .disabled none hkeeps]
      rfl
    · rw [hat]
      exact onlyScheduler_of_moves (moves_enter_settle hkeeps)
    · rw [hat, enter_settle_state hr .disabled none (by decide)]
    · rw [hat, enter_settle_zones hr]
      rfl
    · rw [hat]
      exact enter_settle_queue_left hr .disabled none hu hu8 (by decide)

/-! ### ENABLE ZONE and RELEASE ZONE -/

/-- A zone taken to UNKNOWN with failure count 0 (R83, R84). -/
def UnknownAgain (s : State) (u z : Nat) (t : State) : Prop :=
  t = (s.enter u z .unknown none (fun q => { q with failures := 0 })).settle ∧
    OnlyScheduler s t ∧ t.queues = s.queues ∧ t.supply.state = s.supply.state ∧
    t.zones = zoneSet s u z (fun q => { atRest .unknown none q with failures := 0 })

theorem unknownAgain_makeUnknown {s : State} {u z : Nat} {r : ZoneRec} (hr : s.zone? u z = some r)
    (hq : r.state ≠ .queued) :
    UnknownAgain s u z (s.makeUnknown u z id).settle ∧ (s.makeUnknown u z id).settle.codeAt u z = 0 := by
  have hkeeps : KeepsPlace fun q : ZoneRec => { q with failures := 0 } := fun _ => rfl
  exact ⟨⟨rfl, onlyScheduler_of_moves (moves_enter_settle hkeeps), enter_settle_queues hr .unknown none hq (by decide),
    enter_settle_state hr .unknown none (by decide), enter_settle_zones hr .unknown none⟩,
    enter_settle_codeAt hr .unknown none hkeeps rfl⟩

theorem enableZoneBody_refused {s : State} {u z : Nat} {r : ZoneRec} (h : r.state ≠ .disabled) :
    enableZoneBody u z r s = refuse s .wrongState [num (keyNumber r.state)] := by
  rw [enableZoneBody, ← keyStateCode_eq_keyNumber]
  cases hk : r.state with
  | disabled => exact absurd hk h
  | _ => rfl

theorem releaseZoneBody_refused {s : State} {u z : Nat} {r : ZoneRec} (hb : r.state ≠ .blocked) (hf : r.state ≠ .faulted)
    (hm : r.state ≠ .missed) : releaseZoneBody u z r s = refuse s .wrongState [num (keyNumber r.state)] := by
  rw [releaseZoneBody, ← keyStateCode_eq_keyNumber]
  cases hk : r.state with
  | blocked => exact absurd hk hb
  | faulted => exact absurd hk hf
  | missed => exact absurd hk hm
  | _ => rfl

/-- A released MISSED zone is evaluated at once (R84). -/
theorem releaseZoneBody_of_missed {s : State} {u z : Nat} {r : ZoneRec} (h : r.state = .missed) :
    releaseZoneBody u z r s = accept (s.evaluate u z).settle [(s.evaluate u z).settle.codeAt u z] := by
  rw [releaseZoneBody, h]

/-- Settles O36: ENABLE and RELEASE by the zone's key state, and the evaluation of a MISSED zone. -/
theorem enableAndReleaseByKeyState : Obligations.EnableAndReleaseByKeyState := by
  intro s f u z hfree hf hdevice hrecords
  have henable : Taken .enableZone f [u, z] s := hf.taken hfree rfl rfl (fun _ => hdevice) (by decide)
  have hrelease : Taken .releaseZone f [u, z] s := hf.taken hfree rfl rfl (fun _ => hdevice) (by decide)
  refine ⟨fun h => ⟨henable.exec_refused nofun (zoneRequest_of_none h), hrelease.exec_refused nofun (zoneRequest_of_none h)⟩, ?_⟩
  intro r hr wrong toUnknown
  obtain ⟨hu, hu8⟩ := records_unit_of_zone? hrecords hr
  have hen : requestBody .enableZone f [u, z] s = enableZoneBody u.toNat z.toNat r s := zoneRequest_of_some hrecords hr
  have hrel : requestBody .releaseZone f [u, z] s = releaseZoneBody u.toNat z.toNat r s := zoneRequest_of_some hrecords hr
  have hmissed : r.state = .missed → ∀ {k : KeyState} {g : ZoneRec → ZoneRec}, KeepsPlace g →
      (g (atRest k none r)).state = k → s.evaluate u.toNat z.toNat = s.enter u.toNat z.toNat k none g →
      exec (.releaseZone f) s =
        .next (answers f 38 .ok [num (keyNumber k)] (s.enter u.toNat z.toNat k none g).settle) := by
    intro hm k g hg hstate heval
    refine hrelease.exec_plain (by decide) (hrel.trans ((releaseZoneBody_of_missed hm).trans ?_))
    rw [heval, enter_settle_codeAt hr k none hg hstate]
    rfl
  refine ⟨fun hk => ?_, fun hk => henable.exec_refused nofun (hen.trans (enableZoneBody_refused hk)), fun hk => ?_,
    fun hb hf hm => hrelease.exec_refused nofun (hrel.trans (releaseZoneBody_refused hb hf hm)), fun hm ht => ?_,
    fun p tg hm hp ht => ⟨fun hd => ?_, fun hd => ?_⟩⟩
  · obtain ⟨hunknown, hcode⟩ := unknownAgain_makeUnknown hr (by rw [hk]; decide)
    refine ⟨_, henable.exec_plain (by decide) (hen.trans ?_), hunknown⟩
    simp only [enableZoneBody, hk, hcode]
    rfl
  · obtain ⟨hunknown, hcode⟩ := unknownAgain_makeUnknown hr (by rcases hk with hk | hk <;> rw [hk] <;> decide)
    refine ⟨_, hrelease.exec_plain (by decide) (hrel.trans ?_), hunknown⟩
    rcases hk with hk | hk
    all_goals
      simp only [releaseZoneBody, hk, hcode]
      rfl
  · have hkeeps : KeepsPlace fun q : ZoneRec => { q with retries := 0 } := fun _ => rfl
    exact ⟨_, hmissed hm hkeeps rfl (evaluate_of_no_target hr ht), rfl, onlyScheduler_of_moves (moves_enter_settle hkeeps),
      enter_settle_queues hr .idle none (by rw [hm]; decide) (by decide), enter_settle_zones hr .idle none⟩
  · have hkeeps : KeepsPlace fun q : ZoneRec => { q with retries := 0, settleStamp := some s.press.sheets } := fun _ => rfl
    have heval := evaluate_of_near hr hp ht hd
    simp only [hm, reduceCtorEq, if_false] at heval
    exact ⟨_, hmissed hm hkeeps rfl heval, rfl, onlyScheduler_of_moves (moves_enter_settle hkeeps),
      enter_settle_queues hr .settled none (by rw [hm]; decide) (by decide), enter_settle_zones hr .settled none⟩
  · have hkeeps : KeepsPlace fun q : ZoneRec => { q with retries := 0 } := fun _ => rfl
    have hqueue := enter_settle_queue hr .queued none (g := fun q : ZoneRec => { q with retries := 0 }) hu hu8
    rw [if_neg (by rw [hm]; decide), if_pos rfl] at hqueue
    exact ⟨_, hmissed hm hkeeps rfl (evaluate_of_far hr hp ht hd), rfl, onlyScheduler_of_moves (moves_enter_settle hkeeps),
        hqueue,
      enter_settle_zones hr .queued none⟩

/-! ### SET KEY CAL and READ ECHO -/

/-- SET KEY CAL over the operands of its frame (R85). -/
theorem setKeyCalBody_eq (u z width gain : Word) (s : State) :
    setKeyCalBody [u, z, width, gain] s =
      if u.toNat < 1 ∨ 8 < u.toNat ∨ z.toNat < 1 ∨ 36 < z.toNat then refuse s .badParam [1]
      else if width.toNat < 200 ∨ 4000 < width.toNat then refuse s .badParam [2]
      else if gain.toNat < 100 ∨ 1600 < gain.toNat then refuse s .badParam [3]
      else if 8191 < width.toNat + roundHalfUp 2048000 gain.toNat then
        refuse s .badParam [4, num (width.toNat + roundHalfUp 2048000 gain.toNat)]
      else if (s.zone? u.toNat z.toNat).map ZoneRec.state = some .queued then
        refuse s .zoneBusy [num (keyNumber .queued)]
      else if (s.zone? u.toNat z.toNat).map ZoneRec.state = some .moving then
        refuse s .zoneBusy [num (keyNumber .moving)]
      else
        accept ((s.setCalEntry u.toNat z.toNat ⟨width.toNat, gain.toNat⟩).calStored u.toNat z.toNat
            ((s.zone? u.toNat z.toNat).map ZoneRec.state)).1
          [bword ((s.setCalEntry u.toNat z.toNat ⟨width.toNat, gain.toNat⟩).calStored u.toNat z.toNat
            ((s.zone? u.toNat z.toNat).map ZoneRec.state)).2, num (s.calEntry u.toNat z.toNat).zero,
            num (s.calEntry u.toNat z.toNat).gain] := by
  rfl

/-- What follows a stored entry, by the key state of its zone (R85). -/
theorem calStored_kept {s : State} {u z : Nat} {k : Option KeyState} (h : k = none ∨ k = some .unknown ∨ k = some .disabled) :
    s.calStored u z k = (s, false) := by
  rcases h with rfl | rfl | rfl <;> rfl

theorem calStored_made {s : State} {u z : Nat} {k : Option KeyState}
    (h : ¬ (k = none ∨ k = some .unknown ∨ k = some .disabled)) :
    s.calStored u z k =
      ((s.enter u z .unknown none (fun q => { q with failures := 0, retries := 0 })).settle, true) := by
  rcases k with _ | k
  · exact absurd (.inl rfl) h
  · cases k
    case unknown => exact absurd (.inr (.inl rfl)) h
    case disabled => exact absurd (.inr (.inr rfl)) h
    all_goals rfl

theorem echoAge_eq (s : State) (r : ZoneRec) : s.echoAge r = r.echoTime.elim 0 (fun e => s.clock.now.ms - e) := by
  unfold State.echoAge
  cases r.echoTime <;> rfl

/-- The operations of the scheduler keep the Key Calibration Table. -/
theorem moves_cal {s t : State} (h : Moves s t) : t.cal = s.cal := by
  rw [h.rest]

/-- Settles O37: the checks of R85 in order, the entry written and its zone made UNKNOWN, and the nine words of READ ECHO. -/
theorem calibrationIsWrittenAndEchoRead : Obligations.CalibrationIsWrittenAndEchoRead := by
  intro s hfree hrecords
  refine ⟨?_, fun f u z hf hdevice => ?_⟩
  · intro f u z width gain hf refused position widthOk gainOk largest state
    have htaken : Taken .setKeyCal f [u, z, width, gain] s := hf.taken hfree rfl rfl nofun (by decide)
    have hbody := setKeyCalBody_eq u z width gain s
    have hposition : position → ¬ (u.toNat < 1 ∨ 8 < u.toNat ∨ z.toNat < 1 ∨ 36 < z.toNat) := by
      rintro ⟨h1, h2, h3, h4⟩
      omega
    have hwidth : widthOk → ¬ (width.toNat < 200 ∨ 4000 < width.toNat) := by
      rintro ⟨h1, h2⟩
      omega
    have hgain : gainOk → ¬ (gain.toNat < 100 ∨ 1600 < gain.toNat) := by
      rintro ⟨h1, h2⟩
      omega
    refine ⟨fun h => htaken.exec_refused nofun (hbody.trans (if_pos ?_)), fun hp h => htaken.exec_refused nofun ?_,
      fun hp hw h => htaken.exec_refused nofun ?_, fun hp hw hg h => htaken.exec_refused nofun ?_,
      fun k hp hw hg hl hk hbusy => htaken.exec_refused nofun ?_, ?_⟩
    · by_contra e
      exact h ⟨by omega, by omega, by omega, by omega⟩
    · rw [if_neg (hposition hp), if_pos (by by_contra e; exact h ⟨by omega, by omega⟩)] at hbody
      exact hbody
    · rw [if_neg (hposition hp), if_neg (hwidth hw), if_pos (by by_contra e; exact h ⟨by omega, by omega⟩)] at hbody
      exact hbody
    · rw [if_neg (hposition hp), if_neg (hwidth hw), if_neg (hgain hg), if_pos h] at hbody
      exact hbody
    · rw [if_neg (hposition hp), if_neg (hwidth hw), if_neg (hgain hg), if_neg (not_lt.mpr hl)] at hbody
      rcases hbusy with rfl | rfl
      · rw [if_pos hk] at hbody
        exact hbody
      · rw [if_neg (by rw [show (s.zone? u.toNat z.toNat).map ZoneRec.state = some .moving from hk]; decide), if_pos hk] at hbody
        exact hbody
    · intro hp hw hg hl hq hm kept
      rw [if_neg (hposition hp), if_neg (hwidth hw), if_neg (hgain hg), if_neg (not_lt.mpr hl), if_neg hq, if_neg hm] at hbody
      obtain ⟨hu, hu8, hz, hz36⟩ := hp
      let e : CalEntry := ⟨width.toNat, gain.toNat⟩
      let s1 := s.setCalEntry u.toNat z.toNat e
      let t := (s1.calStored u.toNat z.toNat state).1
      have hcal : t.cal = s1.cal := by
        by_cases hk : kept
        · rw [show t = s1 from congrArg Prod.fst (calStored_kept hk)]
        · rw [show t = _ from congrArg Prod.fst (calStored_made hk)]
          exact moves_cal (moves_enter_settle fun _ => rfl)
      have hentry : ∀ v y, t.calEntry v y = if v = u.toNat ∧ y = z.toNat then e else s.calEntry v y := by
        intro v y
        rw [State.calEntry, hcal]
        exact State.calEntry_setCalEntry s _ _ v y e ⟨hu, hu8⟩ ⟨hz, hz36⟩
      have hs1 : s1 = { s with cal := t.cal } := by rw [hcal]; rfl
      refine ⟨bword (s1.calStored u.toNat z.toNat state).2, t, ?_, hentry, fun hk => ⟨?_, ?_⟩, fun hk => ⟨?_, ?_, ?_, ?_, ?_⟩⟩
      · rw [show Instr.setKeyCal f = command .setKeyCal f from rfl, htaken.exec hbody]
        have hwrote : t.calEntry u.toNat z.toNat = e := (hentry _ _).trans (if_pos ⟨rfl, rfl⟩)
        exact congrArg (fun e => Host.Outcome.next (answersWith (some (.cal u.toNat z.toNat e)) f 39 .ok _ t)) hwrote
      · rw [calStored_kept hk]
        rfl
      · exact (congrArg Prod.fst (calStored_kept hk)).trans hs1
      · rw [calStored_made hk]
        rfl
      all_goals
        have hmade : t = (s1.enter u.toNat z.toNat .unknown none (fun q => { q with failures := 0, retries := 0 })).settle :=
          congrArg Prod.fst (calStored_made hk)
        obtain ⟨r, hr⟩ : ∃ r, s.zone? u.toNat z.toNat = some r := by
          refine Option.ne_none_iff_exists'.mp fun hnone => hk (.inl ?_)
          rw [show state = (s.zone? u.toNat z.toNat).map ZoneRec.state from rfl, hnone]
          rfl
        have hr1 : s1.zone? u.toNat z.toNat = some r := hr
      · rw [← hs1]
        exact hmade
      · rw [← hs1, hmade]
        exact onlyScheduler_of_moves (moves_enter_settle fun _ => rfl)
      · rw [hmade]
        refine enter_settle_queues hr1 .unknown none (fun e => hq ?_) (by decide)
        rw [show state = (s.zone? u.toNat z.toNat).map ZoneRec.state from rfl, hr, Option.map_some, e]
      · rw [hmade, enter_settle_zones hr1]
        rfl
  · have htaken : Taken .readEcho f [u, z] s := hf.taken hfree rfl rfl (fun _ => hdevice) (by decide)
    refine ⟨fun h => htaken.exec_refused nofun (zoneRequest_of_none h), ?_⟩
    intro r hr age
    refine htaken.exec_plain (by decide) ((zoneRequest_of_some hrecords hr).trans ?_)
    rw [readEchoBody, keyStateCode_eq_keyNumber, upper_eq_upperWord, lower_eq_lowerWord, echoAge_eq]
    rfl

end Sys2Proof.Claims
end

section
/-! PROOF. The work a key line is offered and the arbiter's choice (R106, R116, R149 to R153), and the events of a transaction
(R134 to R141). -/

namespace Sys2Proof.Claims

open Sys2Proof.Machine Sys2Proof.Safety

/-! ### Work offered to a line -/

theorem haltPending_iff (r : ZoneRec) : r.haltPending = true ↔ haltWaits r := by
  simp only [ZoneRec.haltPending, haltWaits, Bool.and_eq_true, Bool.or_eq_true, beq_iff_eq]

theorem pollIsDue_iff (s : State) (r : ZoneRec) : r.pollIsDue s.clock.now.ms = true ↔ pollWaits s r := by
  unfold ZoneRec.pollIsDue pollWaits
  cases r.pollDue with
  | none => simp
  | some d =>
    simp only [Bool.and_eq_true, beq_iff_eq, Bool.not_eq_true', and_assoc, elapsedMs, Option.some.injEq, exists_eq_left']
    exact and_congr_right' (and_congr_right' decide_eq_true_iff)

theorem retryIsDue_iff (r : ZoneRec) : r.retryIsDue = true ↔ retryWaits r := by
  simp only [ZoneRec.retryIsDue, retryWaits, Bool.and_eq_true, beq_iff_eq, Bool.not_eq_true', and_assoc]

theorem surveyOffered_iff (r : ZoneRec) : r.surveyOffered = true ↔ surveyWaits r := by
  simp only [ZoneRec.surveyOffered, surveyWaits, Bool.and_eq_true, beq_iff_eq, Bool.not_eq_true']

theorem mem_unitZones {s : State} {u : Nat} {r : ZoneRec} : r ∈ s.unitZones u ↔ r ∈ s.zones ∧ r.unit = u := by
  rw [State.unitZones, List.mem_filter, beq_iff_eq]

theorem higherWork_iff (s : State) (u : Nat) :
    s.higherWork u = true ↔ ∃ r ∈ s.zones, r.unit = u ∧ (haltWaits r ∨ pollWaits s r ∨ retryWaits r) := by
  simp only [State.higherWork, List.any_eq_true, mem_unitZones, Bool.or_eq_true, haltPending_iff, pollIsDue_iff,
    retryIsDue_iff, and_assoc, or_assoc]

/-- A line requests the budget (R116). -/
theorem requests_iff (s : State) (u : Nat) : s.requests u = true ↔ requestsBudget s u := by
  have hhigher : (!s.higherWork u) = true ↔ ∀ r ∈ s.zones, r.unit = u → ¬ haltWaits r ∧ ¬ pollWaits s r ∧ ¬ retryWaits r := by
    rw [Bool.not_eq_true', Bool.eq_false_iff, ne_eq, higherWork_iff]
    push Not
    rfl
  simp only [State.requests, requestsBudget, Bool.and_eq_true, hhigher, Bool.not_eq_true', beq_iff_eq, and_assoc,
    List.isEmpty_eq_false_iff]

/-- The first place of a list that satisfies a test. -/
theorem find?_map_range_eq_some {n : Nat} {f : Nat → Nat} {p : Nat → Bool} {u : Nat} :
    ((List.range n).map f).find? p = some u ↔ ∃ i < n, u = f i ∧ p u = true ∧ ∀ j < i, p (f j) = false := by
  induction n with
  | zero => simp
  | succ n ih =>
    rw [List.range_succ, List.map_append, List.find?_append, Option.or_eq_some_iff, ih]
    constructor
    · rintro (⟨i, hi, h⟩ | ⟨hnone, hlast⟩)
      · exact ⟨i, by omega, h⟩
      · obtain ⟨hp, hu⟩ : p (f n) = true ∧ f n = u := by
          rw [List.map_singleton, List.find?_singleton, Option.ite_none_right_eq_some] at hlast
          exact ⟨hlast.1, Option.some.inj hlast.2⟩
        refine ⟨n, by omega, hu.symm, hu ▸ hp, fun j hj => ?_⟩
        simpa using List.find?_eq_none.mp hnone (f j) (List.mem_map_of_mem (List.mem_range.mpr hj))
    · rintro ⟨i, hi, rfl, hp, hbefore⟩
      obtain hi | rfl : i < n ∨ i = n := by omega
      · exact .inl ⟨i, hi, rfl, hp, hbefore⟩
      · refine .inr ⟨List.find?_eq_none.mpr fun x hx => ?_, by simp [hp]⟩
        obtain ⟨j, hj, rfl⟩ := List.mem_map.mp hx
        simpa using hbefore j (List.mem_range.mp hj)

/-- The arbiter's pick is the line granted next (R116). -/
theorem arbiterPick_iff (s : State) (u : Nat) : s.arbiterPick = some u ↔ grantsNext s u := by
  have hfind : (arbiterOrder s.pointer).find? (fun u => s.requests u) = some u ↔
      ∃ i < 8, u = arbiterLine s i ∧ requestsBudget s u ∧ ∀ j < i, ¬ requestsBudget s (arbiterLine s j) := by
    rw [arbiterOrder, find?_map_range_eq_some]
    simp only [requests_iff, Bool.eq_false_iff, ne_eq]
    rfl
  unfold State.arbiterPick grantsNext
  rw [← hfind]
  by_cases hcount : s.movingCount < s.limits.budget
  · rw [if_pos hcount]
    exact ⟨fun h => ⟨hcount, h⟩, fun h => h.2⟩
  · rw [if_neg hcount]
    exact ⟨nofun, fun h => absurd h.1 hcount⟩

/-! ### A turn without work -/

theorem haltChoice_eq_none {s : State} {u : Nat} (h : ∀ r ∈ s.zones, r.unit = u → ¬ haltWaits r) : s.haltChoice u = none := by
  have hnil : (s.unitZones u).filter ZoneRec.haltPending = [] := by
    rw [List.filter_eq_nil_iff]
    intro r hr
    obtain ⟨hmem, hunit⟩ := mem_unitZones.mp hr
    rw [haltPending_iff]
    exact h r hmem hunit
  unfold State.haltChoice
  rw [hnil]
  cases (s.line u).haltMark <;> rfl

/-- Zones without a due poll or a due retry are passed by (R151). -/
theorem pollsAndRetries_of_no_work {s : State} {u : Nat} {zs : List Nat}
    (h : ∀ z ∈ zs, ∀ r, s.zone? u z = some r → ¬ pollWaits s r ∧ ¬ retryWaits r) : pollsAndRetries u zs s = (s, false) := by
  induction zs with
  | nil => rfl
  | cons z zs ih =>
    have hrest := ih fun y hy => h y (List.mem_cons_of_mem z hy)
    rw [pollsAndRetries]
    cases hz : s.zone? u z with
    | none => exact hrest
    | some r =>
      obtain ⟨hpoll, hretry⟩ := h z List.mem_cons_self r hz
      simp only [if_neg (mt (pollIsDue_iff s r).mp hpoll), if_neg (mt (retryIsDue_iff r).mp hretry), hrest]

theorem surveyChoice_eq_none {s : State} {u : Nat} (h : ∀ r ∈ s.zones, r.unit = u → ¬ surveyWaits r) :
    s.surveyChoice u = none := by
  rw [State.surveyChoice, Option.map_eq_none_iff, List.find?_eq_none]
  intro r hr
  obtain ⟨hmem, hunit⟩ := mem_unitZones.mp hr
  rw [surveyOffered_iff]
  exact h r hmem hunit

/-- A FREE line's turn where no HALT waits (R149). -/
theorem turn_of_no_halt {s : State} {u : Nat} (hfree : (s.line u).phase = .free) (h : s.haltChoice u = none) :
    s.turn u =
      if (pollsAndRetries u ((s.unitZones u).map ZoneRec.zone) s).2 = true then
        (pollsAndRetries u ((s.unitZones u).map ZoneRec.zone) s).1.settle
      else ((pollsAndRetries u ((s.unitZones u).map ZoneRec.zone) s).1.moveOrSurvey u).settle := by
  rw [State.turn, if_pos hfree, h]

/-- A turn without any work is the tests that follow an event (R149). -/
theorem turn_of_no_work {s : State} {u : Nat} (hfree : (s.line u).phase = .free) (hqueue : s.queue u = [])
    (h : ∀ r ∈ s.zones, r.unit = u → ¬ haltWaits r ∧ ¬ pollWaits s r ∧ ¬ retryWaits r ∧ ¬ surveyWaits r) :
    s.turn u = s.settle := by
  have hpolls := pollsAndRetries_of_no_work (s := s) (u := u) (zs := (s.unitZones u).map ZoneRec.zone) fun z _ r hr => by
    obtain ⟨hmem, hunit, -⟩ := State.zone?_some hr
    obtain ⟨-, hpoll, hretry, -⟩ := h r hmem hunit
    exact ⟨hpoll, hretry⟩
  have hpick : s.arbiterPick ≠ some u := fun e => by
    obtain ⟨-, -, -, -, ⟨hne, -⟩, -⟩ := (arbiterPick_iff s u).mp e
    exact hne hqueue
  have hsurvey : s.moveOrSurvey u = s := by
    rw [State.moveOrSurvey, if_neg hpick, surveyChoice_eq_none fun r hr hu => (h r hr hu).2.2.2]
  rw [turn_of_no_halt hfree (haltChoice_eq_none fun r hr hu => (h r hr hu).1), hpolls]
  exact congrArg State.settle hsurvey

/-! ### The lines after a turn -/

/-- A line that holds a transaction is among lines 1 to 8. -/
theorem line_in_range {s : State} {u : Nat} {t : Txn} (h : (s.line u).txn = some t) : 1 ≤ u ∧ u ≤ 8 := by
  by_contra hout
  have hline : s.line u = .afterReset := at1_outside s.lines _ (by omega)
  rw [hline] at h
  cases h

theorem line_setLine_same {s : State} {u : Nat} (hu : 1 ≤ u) (hu8 : u ≤ 8) (l : Line) : (s.setLine u l).line u = l := by
  rw [State.line_setLine, if_pos ⟨rfl, hu, hu8⟩]

theorem line_setLine_ne {s : State} {u w : Nat} (h : w ≠ u) (l : Line) : (s.setLine u l).line w = s.line w := by
  rw [State.line_setLine, if_neg fun e => h e.1]

/-- A transaction's start, in the words of the statements. -/
theorem startTransaction_eq (s : State) (u z : Nat) (v : Verb) (ticks : Option (BitVec 13)) (saved : Option PollDue) :
    s.startTransaction u z v ticks saved = s.setLine u (sending s u z v ticks saved) := by
  rfl

/-- What a turn can change (R149). -/
theorem turnMakes_turn {s : State} {u : Nat} (hu : 1 ≤ u) (hu8 : u ≤ 8) : turnMakes s u (s.turn u) := by
  have hrest := (turns_turn s u).rest
  have hlines := startsAtMost_turn s u
  generalize s.turn u = v at hrest hlines
  have hline : ∀ {t : State} (w : Nat), v.lines = t.lines → v.line w = t.line w := fun w h => by rw [State.line, h]; rfl
  rcases hlines with h | ⟨z, verb, ticks, saved, h⟩
  · exact ⟨hrest, fun w _ => hline w h, .inl (hline u h)⟩
  · refine ⟨hrest, fun w hw => ?_, .inr ⟨z, verb, ticks, saved, ?_⟩⟩
    · rw [hline w h, startTransaction_eq, line_setLine_ne hw]
    · rw [hline u h, startTransaction_eq, line_setLine_same hu hu8]

theorem exec_lineTurn (u : Nat) (s : State) : exec (.lineTurn u) s = .next (s.turn u) := by
  rfl

/-! ### The events of a transaction -/

theorem frameTicks_eq (t : Txn) : t.frameTicks = if t.ticks.isSome then 96 else 44 := by
  rw [Txn.frameTicks, Txn.bits, requestBits_length]
  split_ifs <;> rfl

section
variable {s : State} {u : Nat} {t : Txn}

/-- The end of the request frame (R134). -/
theorem exec_requestFrameEnd (ht : (s.line u).txn = some t) (hp : (s.line u).phase = .sending) :
    exec (.requestFrameEnd u) s =
      if t.frameTicks ≤ (s.clock.echo - t.started).toNat then
        .next (s.setLine u { s.line u with phase := .awaitStatus, txn := some { t with reqEnd := some s.clock.echo } })
      else .next s := by
  change execRequestFrameEnd u s = _
  simp only [execRequestFrameEnd, ht, hp]
  rfl

theorem exec_requestFrameEnd_other (hp : (s.line u).phase ≠ .sending) : exec (.requestFrameEnd u) s = .next s := by
  change execRequestFrameEnd u s = _
  unfold execRequestFrameEnd
  dsimp only
  split
  · next h _ => exact absurd h hp
  · rfl

/-- The sample of a status symbol's start (R135). -/
theorem exec_statusSymbolStart {e : BitVec 16} (ht : (s.line u).txn = some t) (hp : (s.line u).phase = .awaitStatus)
    (he : t.reqEnd = some e) :
    exec (.statusSymbolStart u) s =
      if 2 ≤ (s.clock.echo - e).toNat ∧ (s.clock.echo - e).toNat ≤ 2002 then
        .next (s.setLine u { s.line u with
          phase := .receivingStatus, txn := some { t with symbolAt := some s.clock.echo } })
      else .next s := by
  change execStatusSymbolStart u s = _
  simp only [execStatusSymbolStart, ht, hp, Txn.sinceRequest, he, Option.map_some]
  rfl

theorem exec_statusSymbolStart_other (hp : (s.line u).phase ≠ .awaitStatus) : exec (.statusSymbolStart u) s = .next s := by
  change execStatusSymbolStart u s = _
  unfold execStatusSymbolStart
  dsimp only
  split
  · next h _ => exact absurd h hp
  · rfl

/-- The end of a status symbol (R135, R141). -/
theorem exec_statusSymbol {b : BitVec 16} (code : BitVec 2) (parity stop : Bool) (ht : (s.line u).txn = some t)
    (hp : (s.line u).phase = .receivingStatus) (hb : t.symbolAt = some b) :
    exec (.statusSymbol u code parity stop) s =
      if 18 ≤ (s.clock.echo - b).toNat then
        .next (s.setLine u { s.line u with
          phase := .awaitEcho
          txn := some { t with symbol := some ⟨code, symbolGood code parity stop⟩ }
          capture := { (s.line u).capture with armed := true } })
      else .next s := by
  change execStatusSymbol u code parity stop s = _
  simp only [execStatusSymbol, ht, hp, hb]
  rfl

theorem exec_statusSymbol_other (code : BitVec 2) (parity stop : Bool) (hp : (s.line u).phase ≠ .receivingStatus) :
    exec (.statusSymbol u code parity stop) s = .next s := by
  change execStatusSymbol u code parity stop s = _
  unfold execStatusSymbol
  dsimp only
  split
  · next h _ => exact absurd h hp
  · rfl

/-- The verdict on a symbol (R135). -/
theorem symbolGood_eq (code : BitVec 2) (parity stop : Bool) :
    symbolGood code parity stop =
      decide (code ≠ 0 ∧ ((if code.getLsbD 0 then 1 else 0) + (if code.getLsbD 1 then 1 else 0) + (if parity then 1 else 0)) % 2
        = 0 ∧ stop = false) := by
  revert code parity stop
  decide

/-- The first rise of the echo (R137, R141). -/
theorem exec_echoRisingEdge {e : BitVec 16} (ht : (s.line u).txn = some t) (hp : (s.line u).phase = .awaitEcho)
    (he : t.reqEnd = some e) :
    exec (.echoRisingEdge u) s =
      if decide ((s.clock.echo - e).toNat ≤ 12000) && (s.line u).capture.armed then
        .next (s.setLine u { s.line u with
          phase := .echo, capture := { (s.line u).capture with rise := some s.clock.echo } })
      else .next s := by
  change execEchoRisingEdge u s = _
  simp only [execEchoRisingEdge, ht, hp, Txn.sinceRequest, he, Option.map_some]
  rfl

theorem exec_echoRisingEdge_other (hp : (s.line u).phase ≠ .awaitEcho) : exec (.echoRisingEdge u) s = .next s := by
  change execEchoRisingEdge u s = _
  unfold execEchoRisingEdge
  dsimp only
  split
  · next h _ => exact absurd h hp
  · rfl

/-- The end of the rest (R139, R149). -/
theorem exec_restEnd {e : BitVec 16} (ht : (s.line u).txn = some t) (hp : (s.line u).phase = .resting)
    (he : t.endedAt = some e) :
    exec (.restEnd u) s =
      if 100 ≤ (s.clock.echo - e).toNat then .next ((s.setLine u { s.line u with phase := .free, txn := none }).turn u)
      else .next s := by
  change execRestEnd u s = _
  simp only [execRestEnd, ht, hp, he]
  rfl

theorem exec_restEnd_other (hp : (s.line u).phase ≠ .resting) : exec (.restEnd u) s = .next s := by
  change execRestEnd u s = _
  unfold execRestEnd
  dsimp only
  split
  · next h _ => exact absurd h hp
  · rfl

end

/-- Settles O48: each event in its phase and window, and the turn that the end of the rest gives its line. -/
theorem transactionEventsFollowTheirPhases : Obligations.TransactionEventsFollowTheirPhases := by
  intro s u t l now
  refine ⟨fun ht hp => ?_, exec_requestFrameEnd_other, fun e ht hp he => ?_, exec_statusSymbolStart_other, ?_,
    exec_statusSymbol_other, fun e ht hp he harmed hd => ?_, fun e ht hp he hd => ?_, exec_echoRisingEdge_other,
    fun e ht hp he => ?_, exec_restEnd_other⟩
  · rw [exec_requestFrameEnd ht hp, frameTicks_eq]
    exact ⟨fun h => if_pos h, fun h => if_neg (not_le.mpr h)⟩
  · rw [exec_statusSymbolStart ht hp he]
    exact ⟨fun h1 h2 => if_pos ⟨h1, h2⟩, fun h => if_neg (not_and_or.mpr (h.imp not_le.mpr not_le.mpr))⟩
  · intro b code parity stop ht hp hb ones
    rw [exec_statusSymbol code parity stop ht hp hb, symbolGood_eq]
    exact ⟨fun h => if_pos h, fun h => if_neg (not_le.mpr h)⟩
  · rw [exec_echoRisingEdge ht hp he]
    exact if_pos (by rw [decide_eq_true hd, show (s.line u).capture.armed = true from harmed]; rfl)
  · rw [exec_echoRisingEdge ht hp he]
    exact if_neg (by rw [decide_eq_false (not_le.mpr hd)]; exact Bool.false_ne_true)
  · rw [exec_restEnd ht hp he]
    refine ⟨?_, fun h => if_neg (not_le.mpr h)⟩
    intro h freed
    obtain ⟨hu, hu8⟩ := line_in_range ht
    have hline : freed.line u = { l with phase := .free, txn := none } := line_setLine_same hu hu8 _
    rw [if_pos (show 100 ≤ (s.clock.echo - e).toNat from h)]
    refine ⟨rfl, ⟨freed.turn u, rfl, ?_, ?_, ?_⟩, fun hqueue hwork => congrArg _ ?_⟩
    · exact ((turns_setLine s u _).trans (turns_turn freed u)).rest
    · intro w hw
      rw [(turnMakes_turn (s := freed) hu hu8).2.1 w hw, line_setLine_ne hw]
    · rw [← hline]
      exact (turnMakes_turn (s := freed) hu hu8).2.2
    · exact turn_of_no_work (by rw [hline]) hqueue hwork

end Sys2Proof.Claims
end

section
/-! PROOF. The end of a transaction: the failures it counts and the reply it takes (R108, R109, R119 to R126, R136 to R146). -/

namespace Sys2Proof.Claims

open Sys2Proof.Machine Sys2Proof.Safety

/-! ### Records changed at one pair -/

section
variable {s : State} {u z : Nat} {r : ZoneRec} (hplaces : (s.zones.map place).Nodup) (hr : s.zone? u z = some r)
include hplaces hr

/-- A change of one record is told by what it makes of the record there. -/
theorem zoneSet_congr {f g : ZoneRec → ZoneRec} (h : f r = g r) : zoneSet s u z f = zoneSet s u z g := by
  refine List.map_congr_left fun q hq => ?_
  by_cases hz : q.unit = u ∧ q.zone = z
  · obtain rfl : q = r := Option.some.inj (((zone?_eq_some_iff hplaces).mpr ⟨hq, hz⟩).symm.trans hr)
    rw [if_pos hz, if_pos hz, h]
  · rw [if_neg hz, if_neg hz]

theorem zoneSet_self {f : ZoneRec → ZoneRec} (h : f r = r) : zoneSet s u z f = s.zones := by
  rw [zoneSet_congr hplaces hr (g := id) h, zoneSet]
  simp only [id_eq, ite_self, List.map_id']

theorem modZone_congr {f g : ZoneRec → ZoneRec} (h : f r = g r) : s.modZone u z f = s.modZone u z g := by
  rw [modZone_eq, modZone_eq, zoneSet_congr hplaces hr h]

theorem modZone_self {f : ZoneRec → ZoneRec} (h : f r = r) : s.modZone u z f = s := by
  rw [modZone_eq, zoneSet_self hplaces hr h]

end

/-- A change that keeps the place of each record keeps the places of the table. -/
theorem modZone_places (s : State) (u z : Nat) {f : ZoneRec → ZoneRec} (h : ∀ q, place (f q) = place q) :
    (s.modZone u z f).zones.map place = s.zones.map place := by
  rw [State.modZone, List.map_map]
  refine List.map_congr_left fun q _ => ?_
  rw [Function.comp_apply]
  split_ifs
  exacts [h q, rfl]

/-! ### A transaction's end -/

theorem setLine_setLine (s : State) (u : Nat) (a b : Line) : (s.setLine u a).setLine u b = s.setLine u b := by
  unfold State.setLine put1
  by_cases hu : u = 0
  · simp only [if_pos hu]
  · simp only [if_neg hu, Vector.setIfInBounds_setIfInBounds]

/-- The end of line u's transaction, in the words of the statements (R139). -/
theorem endTransaction_eq (s : State) (u : Nat) (t : Txn) (v : Verdict) :
    s.endTransaction u t v = (lineEnded s u t (s.line u).capture.fall).takeVerdict u t v := by
  rfl

theorem lineEnded_zone? (s : State) (u : Nat) (t : Txn) (fall : Option (BitVec 16)) (v z : Nat) :
    (lineEnded s u t fall).zone? v z = s.zone? v z := by
  rfl

/-! ### Failures -/

section
variable {s : State} {u : Nat} {t : Txn} {r : ZoneRec} (hplaces : (s.zones.map place).Nodup) (hr : s.zone? u t.zone = some r)
include hplaces hr

/-- What a failure does, in the words of the statements (R82, R126, R146, R148). -/
theorem takeFailure_eq : s.takeFailure u t.zone r t.verb t.savedPoll = failureTaken s u t r := by
  have hcount : ∀ q : ZoneRec, place { q with failures := q.failures + 1 } = place q := fun _ => rfl
  have hcounted : (s.modZone u t.zone fun q => { q with failures := q.failures + 1 }).zone? u t.zone =
      some { r with failures := r.failures + 1 } := zone?_modZone_same hcount hr
  unfold State.takeFailure failureTaken
  refine ite_congr rfl (fun _ => rfl) fun _ => ite_congr rfl (fun _ => rfl) fun _ => ?_
  rw [State.afterFailure.eq_def, hcounted, ← modZone_eq]
  by_cases hm : r.state = .moving
  · cases hverb : t.verb with
    | move =>
      refine (if_pos hm).trans ((modZone_modZone s u t.zone hcount _).trans (modZone_congr hplaces hr ?_))
      cases r.halts.any <;> simp [hm]
    | sense =>
      refine (if_pos hm).trans ((modZone_modZone s u t.zone hcount _).trans (modZone_congr hplaces hr ?_))
      cases r.halts.any <;> simp [hm]
    | halt =>
      refine (if_pos hm).trans (modZone_congr hplaces hr ?_)
      simp only [ite_self]
  · refine (if_neg hm).trans (modZone_congr hplaces hr ?_)
    simp only [hm, false_and, if_false]

/-- A failed transaction is taken for its zone (R146). -/
theorem takeVerdict_failure {v : Verdict} (hv : v = .noReply ∨ v = .lineError) :
    s.takeVerdict u t v = (failureTaken s u t r).settle := by
  rw [State.takeVerdict, hr, ← takeFailure_eq hplaces hr]
  obtain rfl | rfl := hv <;> rfl

end

section
variable {s : State} {u : Nat} {t : Txn} {e : BitVec 16} (ht : (s.line u).txn = some t) (he : t.reqEnd = some e)
include ht he

/-- No status symbol within the window (R136). -/
theorem exec_noReply (hp : (s.line u).phase = .awaitStatus) :
    exec (.noReply u) s =
      if 2000 ≤ (s.clock.echo - e).toNat then .next (s.endTransaction u t .noReply) else .next s := by
  change execNoReply u s = _
  simp only [execNoReply, ht, hp, Txn.sinceRequest, he, Option.map_some]
  rfl

/-- A transaction not ended in time (R138). -/
theorem exec_lineErrorLimit
    (hp : (s.line u).phase = .receivingStatus ∨ (s.line u).phase = .awaitEcho ∨ (s.line u).phase = .echo) :
    exec (.lineErrorLimit u) s =
      if 12000 ≤ (s.clock.echo - e).toNat then .next (s.endTransaction u t .lineError) else .next s := by
  change execLineErrorLimit u s = _
  obtain hp | hp | hp := hp <;>
  · simp only [execLineErrorLimit, ht, hp, Txn.sinceRequest, he, Option.map_some]
    rfl

end

theorem exec_noReply_other {s : State} {u : Nat} (hp : (s.line u).phase ≠ .awaitStatus) : exec (.noReply u) s = .next s := by
  change execNoReply u s = _
  unfold execNoReply
  dsimp only
  split
  · next h _ => exact absurd h hp
  · rfl

theorem exec_lineErrorLimit_other {s : State} {u : Nat} (h1 : (s.line u).phase ≠ .receivingStatus)
    (h2 : (s.line u).phase ≠ .awaitEcho) (h3 : (s.line u).phase ≠ .echo) : exec (.lineErrorLimit u) s = .next s := by
  change execLineErrorLimit u s = _
  unfold execLineErrorLimit
  dsimp only
  split
  · next h _ => exact absurd h h1
  · next h _ => exact absurd h h2
  · next h _ => exact absurd h h3
  · rfl

/-- Settles O49: the two failures by their time limits, and what a failure leaves. -/
theorem failedTransactionsAreCounted : Obligations.FailedTransactionsAreCounted := by
  intro s u t e r hrecords ht he hr l ticks failed
  have hfail : ∀ v, v = .noReply ∨ v = .lineError → s.endTransaction u t v = failed := fun v hv => by
    rw [endTransaction_eq, takeVerdict_failure (s := lineEnded s u t (s.line u).capture.fall) (records_nodup hrecords) hr hv]
  refine ⟨fun hp h => ?_, fun hp h => ?_, exec_noReply_other, fun hp => ?_, exec_lineErrorLimit_other⟩
  · rw [exec_noReply ht he hp, if_pos h, hfail _ (.inl rfl)]
  · rw [exec_noReply ht he hp, if_neg (not_le.mpr h)]
  · rw [exec_lineErrorLimit ht he hp, hfail _ (.inr rfl)]
    exact ⟨fun h => if_pos h, fun h => if_neg (not_le.mpr h)⟩

/-! ### The judgement of a reply -/

/-- A reply is valid: a good symbol of a known code, an echo of a width in its range and a plausible position (R143). -/
def ReplyValid (e : CalEntry) (y : Symbol) (w : Nat) : Prop :=
  y.good = true ∧ y.code ≠ 0 ∧ 200 ≤ w ∧ w ≤ 8191 ∧ -20 ≤ echoValue e w ∧ echoValue e w ≤ 520

/-- The position a plausible echo reads as (R68). -/
def positionOf (q : Int) : Nat := (if q < 0 then 0 else if 500 < q then 500 else q).toNat

theorem plausiblePosition_of_plausible {q : Int} (hlo : -20 ≤ q) (hhi : q ≤ 520) :
    plausiblePosition q = some (positionOf q) := by
  rw [plausiblePosition_eq, if_neg (by omega), positionOf]
  split_ifs <;> rfl

theorem plausiblePosition_of_implausible {q : Int} (h : ¬ (-20 ≤ q ∧ q ≤ 520)) : plausiblePosition q = none := by
  rw [plausiblePosition_eq, if_pos (by omega)]

theorem statusOf_eq_none_iff (code : BitVec 2) : statusOf code = none ↔ code = 0 := by
  revert code
  decide

theorem statusOf_eq_some_iff (code : BitVec 2) :
    (statusOf code = some .running ↔ code = 1) ∧ (statusOf code = some .stopped ↔ code = 2) ∧
      (statusOf code = some .stalled ↔ code = 3) := by
  revert code
  decide

theorem judgeEcho_of_valid {e : CalEntry} {y : Symbol} {w : Nat} {st : Status} (h : ReplyValid e y w)
    (hst : statusOf y.code = some st) : judgeEcho e (some y) (some w) = .valid st w (positionOf (echoValue e w)) := by
  obtain ⟨hgood, -, hlo, hhi, hqlo, hqhi⟩ := h
  simp only [judgeEcho, hst, plausiblePosition_of_plausible hqlo hqhi]
  exact if_pos (by simp [hgood, hlo, hhi])

theorem judgeEcho_of_not_valid {e : CalEntry} {y : Symbol} {w : Nat} (h : ¬ ReplyValid e y w) :
    judgeEcho e (some y) (some w) = .lineError := by
  cases hst : statusOf y.code with
  | none => simp only [judgeEcho, hst]
  | some st =>
    have hcode : y.code ≠ 0 := fun e => by rw [(statusOf_eq_none_iff _).mpr e] at hst; cases hst
    by_cases hq : -20 ≤ echoValue e w ∧ echoValue e w ≤ 520
    · simp only [judgeEcho, hst, plausiblePosition_of_plausible hq.1 hq.2]
      refine if_neg fun hall => h ?_
      simp only [Bool.and_eq_true, decide_eq_true_eq, and_assoc] at hall
      obtain ⟨hgood, hlo, hhi⟩ := hall
      exact ⟨hgood, hcode, hlo, hhi, hq⟩
    · simp only [judgeEcho, hst, plausiblePosition_of_implausible hq]

/-! ### The end of an echo -/

theorem exec_echoEnd_other {s : State} {u : Nat} (hp : (s.line u).phase ≠ .echo) : exec (.echoEnd u) s = .next s := by
  change execEchoEnd u s = _
  unfold execEchoEnd
  dsimp only
  split
  · next h _ => exact absurd h hp
  · rfl

theorem exec_echoEnd_late {s : State} {u : Nat} {t : Txn} {e : BitVec 16} (ht : (s.line u).txn = some t)
    (he : t.reqEnd = some e) (hlate : 12000 < (s.clock.echo - e).toNat) : exec (.echoEnd u) s = .next s := by
  by_cases hp : (s.line u).phase = .echo
  · change execEchoEnd u s = _
    simp only [execEchoEnd, ht, hp, Txn.sinceRequest, he, Option.map_some]
    exact if_neg (not_le.mpr hlate)
  · exact exec_echoEnd_other hp

theorem exec_echoEnd {s : State} {u : Nat} {t : Txn} {e b : BitVec 16} {y : Symbol} (ht : (s.line u).txn = some t)
    (hp : (s.line u).phase = .echo) (he : t.reqEnd = some e) (hb : (s.line u).capture.rise = some b)
    (hy : t.symbol = some y) (hd : (s.clock.echo - e).toNat ≤ 12000) :
    exec (.echoEnd u) s =
      .next ((lineEnded s u t (some s.clock.echo)).takeVerdict u t
        (judgeEcho (s.calEntry u t.zone) (some y) (some (s.clock.echo - b).toNat))) := by
  obtain ⟨hu, hu8⟩ := line_in_range ht
  change execEchoEnd u s = _
  simp only [execEchoEnd, ht, hp, Txn.sinceRequest, he, Option.map_some, hy]
  refine (if_pos hd).trans (congrArg Host.Outcome.next ?_)
  rw [endTransaction_eq, lineEnded, setLine_setLine, line_setLine_same hu hu8, lineEnded]
  simp only [Capture.width, hb]
  rfl

/-- A record with the position fields of a valid reply written (R144). -/
def echoWritten (s : State) (w p : Nat) (k : ZoneRec) : ZoneRec :=
  { k with
    measured := some p, echoWidth := some w, echoTime := some s.clock.now.ms
    failures := if k.state = .faulted then k.failures else 0 }

theorem writeEcho_eq (s : State) (u z w p : Nat) : s.writeEcho u z w p = s.modZone u z (echoWritten s w p) := by
  rfl

theorem echoWritten_place (s : State) (w p : Nat) (k : ZoneRec) : place (echoWritten s w p k) = place k := by
  rfl

/-- A valid reply writes the position fields and is taken (R144, R145). -/
theorem takeVerdict_valid {s : State} {u : Nat} {t : Txn} {r : ZoneRec} (hr : s.zone? u t.zone = some r) (st : Status)
    (w p : Nat) :
    s.takeVerdict u t (.valid st w p) =
      ((s.writeEcho u t.zone w p).takeReply u t.zone (echoWritten s w p r) t.verb st).settle := by
  have hwritten : (s.writeEcho u t.zone w p).zone? u t.zone = some (echoWritten s w p r) :=
    zone?_modZone_same (echoWritten_place s w p) hr
  simp only [State.takeVerdict, hr, hwritten]

/-! ### Taking a valid reply -/

section
variable {s : State} {u z : Nat} {r : ZoneRec}

theorem requeue_eq (hr : s.zone? u z = some r) :
    s.requeue u z = s.enter u z (if r.target.isNone then .idle else .queued) none id := by
  rw [State.requeue, hr]

theorem moveAge_eq (s : State) (r : ZoneRec) : s.moveAge r = r.moveStart.elim 0 (fun m => (s.clock.now.ms - m).toNat) := by
  cases hm : r.moveStart <;> simp only [State.moveAge, hm] <;> rfl

/-- A STALLED reply blocks the key in every state that takes it (R125). -/
theorem takeReply_stalled (v : Verb)
    (h : r.state = .unknown ∨ r.state = .moving ∨ r.state = .queued ∨ r.state = .idle ∨ r.state = .settled) :
    s.takeReply u z r v .stalled = s.enter u z .blocked (some .stall) id := by
  obtain h | h | h | h | h := h
  · simp only [State.takeReply, h]
    split_ifs <;> rfl
  · cases v <;> simp only [State.takeReply, h] <;> rfl
  · simp only [State.takeReply, h]
    rfl
  · simp only [State.takeReply, h]
    rfl
  · simp only [State.takeReply, h]
    rfl

/-- A zone at rest takes no other reply (R145). -/
theorem takeReply_at_rest (v : Verb) {st : Status} (h : r.state = .queued ∨ r.state = .idle ∨ r.state = .settled)
    (hst : st ≠ .stalled) : s.takeReply u z r v st = s := by
  obtain h | h | h := h <;> simp only [State.takeReply, h, if_neg hst]

/-- A survey reply (R108). -/
theorem takeReply_survey (v : Verb) (st : Status) (h : r.state = .unknown) (hany : ¬ r.halts.any = true) :
    s.takeReply u z r v st = s.surveyReply u z st := by
  simp only [State.takeReply, h, if_neg hany]

/-- A reply for an UNKNOWN zone with a halt pending (R109). -/
theorem takeReply_unknownHalt (v : Verb) (st : Status) (h : r.state = .unknown) (hany : r.halts.any = true) :
    s.takeReply u z r v st = s.unknownHaltReply u z r st := by
  simp only [State.takeReply, h, if_pos hany]

/-- The replies of a MOVING zone by verb and status (R119 to R124). -/
theorem takeReply_move {st : Status} (h : r.state = .moving) (hst : st ≠ .stalled) :
    s.takeReply u z r .move st = s.setPollDue u z := by
  cases st <;> simp only [State.takeReply, h]
  · rfl
  · rfl
  · exact absurd rfl hst

theorem takeReply_poll_running (h : r.state = .moving) : s.takeReply u z r .sense .running = s.runningReply u z r true := by
  simp only [State.takeReply, h]

theorem takeReply_poll_stopped (h : r.state = .moving) : s.takeReply u z r .sense .stopped = s.pollStopped u z r := by
  simp only [State.takeReply, h]

theorem takeReply_halt_stopped (h : r.state = .moving) :
    s.takeReply u z r .halt .stopped =
      if r.halts.disable then s.enter u z .disabled none id
      else if r.halts.timeout then s.enter u z .blocked (some .timeout) id else s.requeue u z := by
  simp only [State.takeReply, h]
  rfl

theorem takeReply_halt_running (h : r.state = .moving) :
    s.takeReply u z r .halt .running =
      if r.halts.timeout && 2 * s.moveLimitMs < s.moveAge r then s.enter u z .blocked (some .timeout) id
      else s.runningReply u z r false := by
  simp only [State.takeReply, h]
  rfl

/-- A poll made due for a zone without halt reasons (R119, R148). -/
theorem setPollDue_eq (hplaces : (s.zones.map place).Nodup) (hr : s.zone? u z = some r) :
    s.setPollDue u z =
      if r.halts.any = true then s
      else { s with zones := zoneSet s u z (fun k => { k with pollDue := some ⟨s.clock.now.ms, s.limits.pollMs⟩ }) } := by
  split_ifs with hany
  · exact modZone_self hplaces hr (if_pos hany)
  · exact (modZone_congr hplaces hr (if_neg hany)).trans (modZone_eq s u z _)

theorem addTimeout_eq (s : State) (u z : Nat) :
    s.addTimeout u z = { s with
      zones := zoneSet s u z (fun k => { k with halts := { k.halts with timeout := true }, pollDue := none }) } :=
  modZone_eq s u z _

end

/-- Settles O50: the judgement of the reply, and its effect by key state, verb and status. -/
theorem echoEndTakesTheReply : Obligations.EchoEndTakesTheReply := by
  refine ⟨fun s u => exec_echoEnd_other, fun s u t e => exec_echoEnd_late, ?_⟩
  intro s u t e b y r hrecords ht hp he hb hy hr hd z w q valid ended p echoed s1 with1 becomes running stopped age limit
    reasons near toQueue pollLater timeout
  have hexec : exec (.echoEnd u) s = .next (ended.takeVerdict u t (judgeEcho (s.calEntry u z) (some y) (some w))) :=
    exec_echoEnd ht hp he hb hy hd
  have hplaces : (ended.zones.map place).Nodup := records_nodup hrecords
  have hended : ended.zone? u z = some r := hr
  have hwrite : ended.writeEcho u z w p = s1 := modZone_eq ended u z echoed
  have hplaces1 : (s1.zones.map place).Nodup := by
    rw [← hwrite, writeEcho_eq, modZone_places ended u z (echoWritten_place ended w p)]
    exact hplaces
  have hr1 : s1.zone? u z = some (echoed r) := by
    rw [← hwrite]
    exact zone?_modZone_same (echoWritten_place ended w p) hended
  have hbecomes : ∀ st x, valid → statusOf y.code = some st → s1.takeReply u z (echoed r) t.verb st = x → becomes x := by
    intro st x hvalid hst hx
    have hjudge : judgeEcho (s.calEntry u z) (some y) (some w) = .valid st w p := judgeEcho_of_valid hvalid hst
    change exec (.echoEnd u) s = .next x.settle
    rw [hexec, hjudge, takeVerdict_valid hended, ← hx, ← hwrite]
    rfl
  obtain ⟨hrun, hstop, hstall⟩ := statusOf_eq_some_iff y.code
  have hknown : valid → ∃ st, statusOf y.code = some st := fun hvalid =>
    Option.ne_none_iff_exists'.mp fun h => hvalid.2.1 ((statusOf_eq_none_iff _).mp h)
  have hmoving : valid → ¬ y.code = 3 → ∃ st, statusOf y.code = some st ∧ st ≠ .stalled := by
    intro hvalid h3
    obtain ⟨st, hst⟩ := hknown hvalid
    exact ⟨st, hst, fun h => h3 (hstall.mp (h ▸ hst))⟩
  have hage : s1.moveAge (echoed r) = age := moveAge_eq s1 (echoed r)
  have hpoll : s1.setPollDue u z = pollLater := setPollDue_eq (r := echoed r) hplaces1 hr1
  have hwithin : r.target ≠ none → (s1.within (echoed r) = true ↔ near) := by
    intro htarget
    obtain ⟨tg, htg⟩ := Option.ne_none_iff_exists'.mp htarget
    rw [within_eq (s := s1) (r := echoed r) (p := p) rfl htg, decide_eq_true_iff, show near ↔ r.target.elim False _ from Iff.rfl,
      htg]
    rfl
  have hdue : s1.retryFallsDue u z =
      if s.press.freeze.filtered = true then
        (with1 (fun k => { k with retries := k.retries + 1, retryDue := true, pollDue := none })).enter u z
          (if r.target.isNone then .idle else .queued) none id
      else with1 (fun k => { k with retries := k.retries + 1, retryDue := true, pollDue := none }) := by
    rw [State.retryFallsDue]
    rw [requeue_eq (zone?_modZone_same (f := fun k => { k with retries := k.retries + 1, retryDue := true, pollDue := none })
      (fun _ => rfl) hr1), modZone_eq]
    rfl
  have hrunning : ∀ poll, s1.runningReply u z (echoed r) poll =
      if limit < age then with1 timeout else if poll then pollLater else s1 := by
    intro poll
    rw [State.runningReply, hage, hpoll, addTimeout_eq]
    rfl
  refine ⟨fun hvalid => ?_, fun hvalid hstate => ?_, fun hvalid h3 hstate => ?_, fun hvalid h3 hstate => ?_,
    fun hvalid hstate hany => ⟨fun hs => ?_, fun hs => ?_⟩, fun hvalid hstate hany => ⟨fun hs => ?_, fun hs hlong => ?_,
    fun hs hshort => ?_⟩, fun hvalid hstate hverb h3 => ?_, fun hvalid hstate hverb hs => ?_,
    fun hvalid hstate hverb hs => ?_, fun hvalid hstate hverb hs => ?_, fun hvalid hstate hverb hs => ?_⟩
  · have hjudge : judgeEcho (s.calEntry u z) (some y) (some w) = .lineError := judgeEcho_of_not_valid hvalid
    rw [hexec, hjudge, takeVerdict_failure hplaces hended (.inr rfl)]
  · obtain ⟨st, hst⟩ := hknown hvalid
    exact hbecomes st _ hvalid hst (by simp only [State.takeReply, show (echoed r).state = .disabled from hstate])
  · exact hbecomes _ _ hvalid (hstall.mpr h3) (takeReply_stalled _ hstate)
  · obtain ⟨st, hst, hne⟩ := hmoving hvalid h3
    exact hbecomes st _ hvalid hst (takeReply_at_rest _ hstate hne)
  · exact hbecomes _ _ hvalid (hstop.mpr hs) (takeReply_survey _ _ hstate hany)
  · exact hbecomes _ _ hvalid (hrun.mpr hs) ((takeReply_survey _ _ hstate hany).trans (modZone_eq s1 u z _))
  · exact hbecomes _ _ hvalid (hstop.mpr hs) (takeReply_unknownHalt _ _ hstate hany)
  · exact hbecomes _ _ hvalid (hrun.mpr hs) ((takeReply_unknownHalt (s := s1) (r := echoed r) _ _ hstate hany).trans
      (if_pos (hlong.trans_eq hage.symm)))
  · exact hbecomes _ _ hvalid (hrun.mpr hs) ((takeReply_unknownHalt (s := s1) (r := echoed r) _ _ hstate hany).trans
      (if_neg (not_lt.mpr (hage.trans_le hshort))))
  · obtain ⟨st, hst, hne⟩ := hmoving hvalid h3
    rw [hverb] at hbecomes
    exact hbecomes st _ hvalid hst ((takeReply_move hstate hne).trans hpoll)
  · rw [hverb] at hbecomes
    have htake := (takeReply_poll_running (s := s1) (u := u) (z := z) (r := echoed r) hstate).trans (hrunning true)
    exact ⟨fun h => hbecomes _ _ hvalid (hrun.mpr hs) (htake.trans (if_pos h)),
      fun h => hbecomes _ _ hvalid (hrun.mpr hs) (htake.trans ((if_neg (not_lt.mpr h)).trans (if_pos rfl)))⟩
  · rw [hverb] at hbecomes
    have htake := fun x hx => hbecomes .stopped x hvalid (hstop.mpr hs)
      ((takeReply_poll_stopped (s := s1) (u := u) (z := z) (r := echoed r) hstate).trans hx)
    refine ⟨fun hany => htake _ (if_pos hany), fun hany htarget => htake _ ((if_neg hany).trans (if_pos ?_)),
      fun hany hnear => htake _ ((if_neg hany).trans ((if_neg ?_).trans (if_pos ?_))), fun hany htarget hnear => ?_⟩
    · change r.target.isNone = true
      rw [htarget]
      rfl
    · change ¬ r.target.isNone = true
      obtain hn | ⟨tg, htg⟩ := Option.eq_none_or_eq_some r.target
      · rw [show near ↔ r.target.elim False _ from Iff.rfl, hn] at hnear
        exact hnear.elim
      · rw [htg]
        exact Bool.false_ne_true
    · exact (hwithin (fun hn => by rw [show near ↔ r.target.elim False _ from Iff.rfl, hn] at hnear; exact hnear)).mpr hnear
    · have hfar := fun x hx => htake x ((if_neg hany).trans ((if_neg (mt Option.isNone_iff_eq_none.mp htarget)).trans
        ((if_neg (mt (hwithin htarget).mp hnear)).trans hx)))
      refine ⟨fun hstale => hfar _ (if_pos hstale), fun hstale hretries => ⟨fun hfreeze => ?_, fun hfreeze => ?_⟩,
        fun hstale hretries => hfar _ ((if_neg (Bool.eq_false_iff.mp hstale)).trans (if_neg (not_lt.mpr hretries)))⟩
      · exact hfar _ ((if_neg (Bool.eq_false_iff.mp hstale)).trans ((if_pos hretries).trans
          ((hdue.trans (if_neg (Bool.eq_false_iff.mp hfreeze))))))
      · exact hfar _ ((if_neg (Bool.eq_false_iff.mp hstale)).trans ((if_pos hretries).trans (hdue.trans (if_pos hfreeze))))
  · rw [hverb] at hbecomes
    have htake := fun x hx => hbecomes .stopped x hvalid (hstop.mpr hs)
      ((takeReply_halt_stopped (s := s1) (u := u) (z := z) (r := echoed r) hstate).trans hx)
    refine ⟨fun hd => htake _ (if_pos hd), fun hd ht => htake _ ((if_neg ?_).trans (if_pos ht)),
      fun hd ht => htake _ ((if_neg ?_).trans ((if_neg ?_).trans (requeue_eq (r := echoed r) hr1)))⟩
    · exact Bool.eq_false_iff.mp hd
    · exact Bool.eq_false_iff.mp hd
    · exact Bool.eq_false_iff.mp ht
  · rw [hverb] at hbecomes
    have htake := fun x hx => hbecomes .running x hvalid (hrun.mpr hs)
      ((takeReply_halt_running (s := s1) (u := u) (z := z) (r := echoed r) hstate).trans hx)
    have hlong : ((echoed r).halts.timeout && decide (2 * s1.moveLimitMs < s1.moveAge (echoed r))) = true ↔
        r.halts.timeout = true ∧ 2 * limit < age := by
      rw [hage, Bool.and_eq_true, decide_eq_true_iff]
      rfl
    refine ⟨fun hto hage => htake _ (if_pos (hlong.mpr ⟨hto, hage⟩)), fun hnot => ⟨fun h => ?_, fun h => ?_⟩⟩
    · exact htake _ ((if_neg (mt hlong.mp hnot)).trans ((hrunning false).trans (if_pos h)))
    · exact htake _ ((if_neg (mt hlong.mp hnot)).trans ((hrunning false).trans ((if_neg (not_lt.mpr h)).trans
        (if_neg Bool.false_ne_true))))

end Sys2Proof.Claims
end

section
/-! PROOF. The operations of the Move Scheduler as sequences of a few kinds of change: a zone enters a key state, a record
changes within its key state, a line is written, a move is granted, a notice is posted, the tests after an event run. What
each kind keeps is kept by every operation. -/

namespace Sys2Proof.Claims

open Sys2Proof.Machine Sys2Proof.Safety

/-! ### What a change of a record keeps -/

/-- The laws of a zone record (R13, R98, R106, R107, R126, R148). -/
def RecordLaws (r : ZoneRec) : Prop := FailuresOk r ∧ CauseOk r ∧ MotionOk r ∧ SensedOk r

/-- The fields of a record that the Move Scheduler never writes: its place, the set-point fields and the trims. -/
def fixedPart (r : ZoneRec) :
    (Nat × Nat) × (Option Nat × Option Nat × Option Nat × Option Nat × Bool) × (Int × Int × Bool) :=
  (place r, (r.coverage, r.effective, r.base, r.target, r.limit), (r.consoleTrim, r.loopTrim, r.loopHold))

/-- Measured position and echo width lie in their ranges (R6). -/
def EchoOk (r : ZoneRec) : Prop := r.measured.getD 0 ≤ 500 ∧ ∀ w ∈ r.echoWidth, 200 ≤ w ∧ w ≤ 8191

/-- The change writes no fixed field and keeps the ranges of the echo. -/
def Harmless (f : ZoneRec → ZoneRec) : Prop := (∀ q, fixedPart (f q) = fixedPart q) ∧ ∀ q, EchoOk q → EchoOk (f q)

theorem Harmless.place {f : ZoneRec → ZoneRec} (h : Harmless f) (q : ZoneRec) : place (f q) = place q :=
  congrArg Prod.fst (h.1 q)

/-- A change that leaves both parts of every record as they are is harmless. -/
theorem harmless_of_same {f : ZoneRec → ZoneRec} (hfixed : ∀ q, fixedPart (f q) = fixedPart q)
    (hmeasured : ∀ q, (f q).measured = q.measured) (hwidth : ∀ q, (f q).echoWidth = q.echoWidth) : Harmless f :=
  ⟨hfixed, fun q h => by rw [EchoOk, hmeasured, hwidth]; exact h⟩

/-- A sequence of the changes that the Move Scheduler and the key lines make. -/
inductive Sched : State → State → Prop
  | refl (s : State) : Sched s s
  | trans {s t v : State} : Sched s t → Sched t v → Sched s v
  | enter {s : State} {u z : Nat} {r : ZoneRec} (k : KeyState) (cause : Option FaultCause) (g : ZoneRec → ZoneRec)
      (hr : s.zone? u z = some r) (hk : k ≠ .moving) (hstate : ∀ q, (g q).state = q.state) (hg : Harmless g)
      (hlaw : RecordLaws r → RecordLaws (g (atRest k cause r))) : Sched s (s.enter u z k cause g)
  | change {s : State} {u z : Nat} {r : ZoneRec} (f : ZoneRec → ZoneRec) (hr : s.zone? u z = some r)
      (hstate : ∀ q, (f q).state = q.state) (hf : Harmless f) (hlaw : RecordLaws r → RecordLaws (f r))
      (hretry : s.press.freeze.filtered = true → r.retryDue = false → (f r).retryDue = false) :
      Sched s (s.modZone u z f)
  | grant {s : State} {u : Nat} (h : s.arbiterPick = some u) : Sched s (s.grantTo u)
  | setLine (s : State) (u : Nat) (l : Line) : Sched s (s.setLine u l)
  | post (s : State) (n : Notice) : Sched s (s.post n)
  | settle (s : State) : Sched s s.settle

theorem Sched.turns {s t : State} (h : Sched s t) : Turns s t := by
  induction h with
  | refl s => exact .refl s
  | trans _ _ h1 h2 => exact h1.trans h2
  | enter k cause g hr hk hstate hg hlaw => exact (moves_enter _ _ _ k cause g fun q => place_eq_iff.mp (hg.place q)).turns
  | change f hr hstate hf hlaw hretry => exact (moves_modZone _ _ _ f fun q => place_eq_iff.mp (hf.place q)).turns
  | grant h => exact turns_grantTo _ _
  | setLine s u l => exact turns_setLine s u l
  | post s n => exact (moves_post s n).turns
  | settle s => exact (moves_settle s).turns

/-! ### The laws of a record that is at rest or changed within its key state -/

/-- A record at rest, sensed where its key state needs it, satisfies the laws. -/
theorem recordLaws_at_rest {k : KeyState} {cause : Option FaultCause} {r : ZoneRec} (hk : k ≠ .moving)
    (hfailures : if k = .faulted then r.failures = 3 else r.failures ≤ 2) (hretries : r.retries ≤ 2)
    (hcause : (k = .blocked → cause = some .stall ∨ cause = some .timeout) ∧ (k = .faulted → cause = some .line) ∧
      (k ≠ .blocked → k ≠ .faulted → cause = none))
    (hsensed : k = .idle ∨ k = .settled ∨ k = .queued ∨ k = .missed → r.measured.isSome)
    (hstamp : k = .settled → r.settleStamp.isSome) : RecordLaws (atRest k cause r) := by
  refine ⟨hfailures, hcause, ⟨nofun, nofun, nofun, ⟨nofun, ?_⟩, nofun, hretries⟩, ⟨?_, hstamp⟩⟩
  · rintro (h | ⟨-, h⟩)
    · exact absurd h hk
    · cases h
  · rintro (h | h | h | h | h)
    exacts [hsensed (.inl h), hsensed (.inr (.inl h)), hsensed (.inr (.inr (.inl h))), absurd h hk,
      hsensed (.inr (.inr (.inr h)))]

/-- A record outside FAULTED has counted at most two failures (R126). -/
theorem failures_le {r : ZoneRec} (h : RecordLaws r) (hs : r.state ≠ .faulted) : r.failures ≤ 2 := by
  obtain ⟨hf, -⟩ := h
  rwa [FailuresOk, if_neg hs] at hf

theorem retries_le {r : ZoneRec} (h : RecordLaws r) : r.retries ≤ 2 := h.2.2.1.2.2.2.2.2

/-- The key states a zone enters without a fault and without a move. -/
abbrev Restful (k : KeyState) : Prop := k ≠ .moving ∧ k ≠ .blocked ∧ k ≠ .faulted

/-- A key state a zone is in only after it has been sensed (R13). -/
def NeedsSense (k : KeyState) : Prop := k = .idle ∨ k = .settled ∨ k = .queued ∨ k = .missed

/-- A zone that is MOVING or stands in a queue or at rest after a move has been sensed. -/
theorem measured_isSome_of_state {r : ZoneRec}
    (hs : r.state = .idle ∨ r.state = .settled ∨ r.state = .queued ∨ r.state = .moving ∨ r.state = .missed)
    (h : RecordLaws r) : r.measured.isSome :=
  h.2.2.2.1 hs

/-- A sensed zone enters a key state without a fault, its retry count and settle stamp written. -/
theorem sched_rest {s : State} {u z : Nat} {r : ZoneRec} (hr : s.zone? u z = some r) {k : KeyState} (hk : Restful k)
    (hs : r.state ≠ .faulted) {g : ZoneRec → ZoneRec}
    (hg : ∀ q, g q = { q with retries := (g q).retries, settleStamp := (g q).settleStamp })
    (hretries : RecordLaws r → (g (atRest k none r)).retries ≤ 2)
    (hsensed : NeedsSense k → RecordLaws r → r.measured.isSome)
    (hstamp : k = .settled → RecordLaws r → (g (atRest k none r)).settleStamp.isSome) :
    Sched s (s.enter u z k none g) := by
  obtain ⟨hm, hb, hf⟩ := hk
  refine .enter k none g hr hm (fun q => by rw [hg q]) (harmless_of_same (fun q => by rw [hg q]; rfl) (fun q => by rw [hg q])
    (fun q => by rw [hg q])) fun h => ?_
  have hrest : atRest k none (g (atRest k none r)) = g (atRest k none r) := by
    rw [hg]
    rfl
  rw [← hrest]
  refine recordLaws_at_rest hm ?_ (hretries h) ⟨fun e => absurd e hb, fun e => absurd e hf, fun _ _ => rfl⟩ (fun e => ?_)
    fun e => hstamp e h
  · rw [if_neg hf, hg]
    exact failures_le (r := r) h hs
  · rw [hg]
    exact hsensed e h

/-! ### Evaluation, requeue, retarget -/

section
variable {s : State} {u z : Nat} {r : ZoneRec} (hr : s.zone? u z = some r)
include hr

/-- The evaluation of a sensed zone (R107). -/
theorem sched_evaluate (hs : r.state ≠ .faulted) (hm : RecordLaws r → r.measured.isSome) : Sched s (s.evaluate u z) := by
  rw [evaluate_eq hr]
  by_cases htarget : r.target.isNone = true
  · rw [if_pos htarget]
    exact sched_rest hr (by decide) hs (fun _ => rfl) (fun _ => Nat.zero_le 2) (fun _ => hm) nofun
  rw [if_neg htarget]
  by_cases hmeasured : r.measured.isNone = true
  · rw [if_pos hmeasured]
    exact .refl s
  rw [if_neg hmeasured]
  by_cases hwithin : s.within r = true
  · rw [if_pos hwithin]
    refine sched_rest hr (by decide) hs (fun _ => rfl) (fun _ => Nat.zero_le 2) (fun _ => hm) fun _ h => ?_
    change (if r.state = .settled then r.settleStamp else some s.press.sheets).isSome
    split_ifs with hset
    · exact h.2.2.2.2 hset
    · rfl
  · rw [if_neg hwithin]
    exact sched_rest hr (by decide) hs (fun _ => rfl) (fun _ => Nat.zero_le 2) (fun _ => hm) nofun

/-- A zone sent to its queue, or to IDLE without a target (R107). -/
theorem sched_enter_requeued (hs : r.state = .moving) {g : ZoneRec → ZoneRec}
    (hg : ∀ q, g q = { q with retries := (g q).retries, settleStamp := (g q).settleStamp })
    (hretries : ∀ k, RecordLaws r → (g (atRest k none r)).retries ≤ 2) :
    Sched s (s.enter u z (if r.target.isNone then .idle else .queued) none g) := by
  have hk : ∀ b : Bool, Restful (if b then .idle else .queued) ∧ (if b then KeyState.idle else .queued) ≠ .settled := by decide
  obtain ⟨h1, h2⟩ := hk r.target.isNone
  exact sched_rest hr h1 (by rw [hs]; decide) hg (hretries _) (fun _ => measured_isSome_of_state (by rw [hs]; decide))
    fun e => absurd e h2

theorem sched_requeue (hs : r.state = .moving) : Sched s (s.requeue u z) := by
  rw [requeue_eq hr]
  exact sched_enter_requeued hr hs (fun _ => rfl) fun _ => retries_le

end

theorem sched_retarget (s : State) (u z : Nat) : Sched s (s.retarget u z) := by
  unfold State.retarget
  cases hr : s.zone? u z with
  | none => exact .refl s
  | some r =>
    have hevaluate : ∀ h : r.state = .idle ∨ r.state = .settled ∨ r.state = .missed, Sched s (s.evaluate u z) := fun h =>
      sched_evaluate hr (by rintro e; rw [e] at h; simp at h)
        (measured_isSome_of_state (by obtain h | h | h := h <;> rw [h] <;> decide))
    dsimp only
    split
    · next h => exact hevaluate (.inl h)
    · next h => exact hevaluate (.inr (.inl h))
    · next h => exact hevaluate (.inr (.inr h))
    · next hs =>
      have hsensed := measured_isSome_of_state (r := r) (by rw [hs]; decide)
      split_ifs with htarget hwithin
      · exact sched_rest hr (by decide) (by rw [hs]; decide) (fun _ => rfl) retries_le (fun _ => hsensed) nofun
      · exact sched_rest hr (by decide) (by rw [hs]; decide) (fun _ => rfl) retries_le (fun _ => hsensed) fun _ _ => rfl
      · exact .refl s
    · next hs =>
      refine .change _ hr (fun _ => rfl) (harmless_of_same (fun _ => rfl) (fun _ => rfl) (fun _ => rfl)) (fun h => ?_)
        fun _ h => h
      obtain ⟨hf, hc, ⟨-, hmotion⟩, hsensed⟩ := h
      exact ⟨hf, hc, ⟨fun _ => hs, hmotion⟩, hsensed⟩
    all_goals exact .refl s

/-- A fold of changes. -/
theorem sched_foldl {α : Type} {f : State → α → State} (h : ∀ s a, Sched s (f s a)) (l : List α) (s : State) :
    Sched s (l.foldl f s) := by
  induction l generalizing s with
  | nil => exact .refl s
  | cons a l ih => exact (h s a).trans (ih (f s a))

/-- The zones of a batch, before the tests that follow it (R112). -/
theorem sched_batch (s : State) (batch : List (Nat × Nat)) :
    Sched s (batch.foldl (fun t q => t.retarget q.1 q.2) s) :=
  sched_foldl (fun t q => sched_retarget t q.1 q.2) batch s

theorem sched_freezeZone (s : State) (u z : Nat) : Sched s (s.freezeZone u z) := by
  unfold State.freezeZone
  cases hr : s.zone? u z with
  | none => exact .refl s
  | some r =>
    dsimp only
    split_ifs with hs hdue hstale
    · exact sched_evaluate hr (by rw [hs]; nofun) (measured_isSome_of_state (by rw [hs]; decide))
    · exact sched_requeue hr hs
    · refine .change _ hr (fun _ => rfl) (harmless_of_same (fun _ => rfl) (fun _ => rfl) (fun _ => rfl)) (fun h => ?_)
        fun _ h => h
      obtain ⟨hf, hc, ⟨hst, hrd, -, hstart, -, hretries⟩, hsensed⟩ := h
      refine ⟨hf, hc, ⟨hst, hrd, fun _ => .inl hs, ?_, nofun, hretries⟩, hsensed⟩
      exact ⟨fun _ => .inl hs, fun _ => hstart.mpr (.inl hs)⟩
    · exact .refl s

theorem sched_loseZone (s : State) (u z : Nat) : Sched s (s.loseZone u z) := by
  unfold State.loseZone
  cases hr : s.zone? u z with
  | none => exact .refl s
  | some r =>
    dsimp only
    split_ifs with hs
    · exact sched_requeue hr hs
    · exact .refl s

/-! ### Replies -/

/-- A record changed while it stays MOVING. -/
theorem recordLaws_moving {r q : ZoneRec} (h : RecordLaws r) (hs : r.state = .moving) (hq : q.state = .moving)
    (hfailures : q.failures = r.failures) (hcause : q.faultCause = r.faultCause)
    (hstart : r.moveStart.isSome → q.moveStart.isSome) (hpoll : q.pollDue.isSome → q.halts.any = false)
    (hretries : r.retries ≤ 2 → q.retries ≤ 2) (hmeasured : q.measured = r.measured) : RecordLaws q := by
  have hcount := failures_le h (by rw [hs]; decide)
  obtain ⟨-, ⟨-, -, hnone⟩, ⟨-, -, -, hmoving, -, hr⟩, hsensed, -⟩ := h
  refine ⟨?_, ⟨fun e => ?_, fun e => ?_, fun _ _ => ?_⟩, ⟨fun _ => hq, fun _ => hq, fun _ => .inl hq,
    ⟨fun _ => .inl hq, fun _ => hstart (hmoving.mpr (.inl hs))⟩, fun e => ⟨hq, hpoll e⟩, hretries hr⟩, fun _ => ?_, fun e => ?_⟩
  · rw [FailuresOk, hq, if_neg (by decide), hfailures]
    exact hcount
  · rw [hq] at e; cases e
  · rw [hq] at e; cases e
  · rw [hcause]
    exact hnone (by rw [hs]; decide) (by rw [hs]; decide)
  · rw [hmeasured]
    exact hsensed (by rw [hs]; decide)
  · rw [hq] at e; cases e

section
variable {s : State} {u z : Nat} {r : ZoneRec} (hr : s.zone? u z = some r)
include hr

/-- A zone enters BLOCKED (R109, R124, R125). -/
theorem sched_block (cause : FaultCause) (hcause : cause = .stall ∨ cause = .timeout) (hs : r.state ≠ .faulted) :
    Sched s (s.enter u z .blocked (some cause) id) := by
  refine .enter .blocked (some cause) id hr nofun (fun _ => rfl) ⟨fun _ => rfl, fun _ h => h⟩ fun h =>
    recordLaws_at_rest nofun ?_ (retries_le h) ⟨fun _ => ?_, nofun, fun e => absurd rfl e⟩ (by rintro (e | e | e | e) <;> cases e)
      nofun
  · exact failures_le h hs
  · exact hcause.imp (congrArg some) (congrArg some)

theorem sched_setPollDue (hs : r.state = .moving) : Sched s (s.setPollDue u z) := by
  refine .change _ hr (fun q => ?_) (harmless_of_same (fun q => ?_) (fun q => ?_) (fun q => ?_)) (fun h => ?_) (fun _ h => ?_)
  · split_ifs <;> rfl
  · split_ifs <;> rfl
  · split_ifs <;> rfl
  · split_ifs <;> rfl
  · split_ifs with hany
    · exact h
    · exact recordLaws_moving h hs hs rfl rfl id (fun _ => Bool.eq_false_iff.mpr hany) id rfl
  · split_ifs <;> exact h

theorem sched_addTimeout (hs : r.state = .moving) : Sched s (s.addTimeout u z) :=
  .change _ hr (fun _ => rfl) (harmless_of_same (fun _ => rfl) (fun _ => rfl) (fun _ => rfl))
    (fun h => recordLaws_moving h hs hs rfl rfl id nofun id rfl) fun _ h => h

theorem sched_runningReply (hs : r.state = .moving) (poll : Bool) : Sched s (s.runningReply u z r poll) := by
  unfold State.runningReply
  split_ifs
  · exact sched_addTimeout hr hs
  · exact sched_setPollDue hr hs
  · exact .refl s

/-- A retry falls due, or is resolved at once under FREEZE (R121, R129). -/
theorem sched_retryFallsDue (hs : r.state = .moving) (hretries : r.retries < 2) : Sched s (s.retryFallsDue u z) := by
  have hkeeps : ∀ q : ZoneRec, place { q with retries := q.retries + 1, retryDue := true, pollDue := none } = place q :=
    fun _ => rfl
  unfold State.retryFallsDue
  dsimp only
  split_ifs with hfreeze
  · rw [requeue_eq (zone?_modZone_same hkeeps hr),
      enter_modZone (g' := fun q => { q with retries := q.retries + 1 }) hkeeps (fun _ => rfl) (fun _ => rfl)]
    exact sched_enter_requeued hr hs (fun _ => rfl) fun _ _ => hretries
  · exact .change _ hr (fun _ => rfl) (harmless_of_same (fun _ => rfl) (fun _ => rfl) (fun _ => rfl))
      (fun h => recordLaws_moving h hs hs rfl rfl id nofun (fun _ => hretries) rfl)
      fun e _ => absurd e hfreeze

theorem sched_pollStopped (hs : r.state = .moving) : Sched s (s.pollStopped u z r) := by
  have hf : r.state ≠ .faulted := by rw [hs]; decide
  have hm := measured_isSome_of_state (r := r) (by rw [hs]; decide)
  unfold State.pollStopped
  split_ifs with hany htarget hwithin hstale hretries
  · exact .refl s
  · exact sched_rest hr (by decide) hf (fun _ => rfl) (fun _ => Nat.zero_le 2) (fun _ => hm) nofun
  · exact sched_rest hr (by decide) hf (fun _ => rfl) (fun _ => Nat.zero_le 2) (fun _ => hm) fun _ _ => rfl
  · exact sched_rest hr (by decide) hf (fun _ => rfl) (fun _ => Nat.zero_le 2) (fun _ => hm) nofun
  · exact sched_retryFallsDue hr hs hretries
  · exact sched_rest hr (by decide) hf (fun _ => rfl) retries_le (fun _ => hm) nofun

theorem sched_haltReply (hs : r.state = .moving) (st : Status) : Sched s (s.haltReply u z r st) := by
  have hf : r.state ≠ .faulted := by rw [hs]; decide
  cases st with
  | stopped =>
    change Sched s (if r.halts.disable then _ else if r.halts.timeout then _ else _)
    split_ifs
    · exact sched_rest hr (by decide) hf (fun _ => rfl) retries_le (by rintro (e | e | e | e) <;> cases e) nofun
    · exact sched_block hr .timeout (.inr rfl) hf
    · exact sched_requeue hr hs
  | running =>
    change Sched s (if r.halts.timeout && decide (2 * s.moveLimitMs < s.moveAge r) then _ else _)
    split_ifs
    · exact sched_block hr .timeout (.inr rfl) hf
    · exact sched_runningReply hr hs false
  | stalled => exact sched_block hr .stall (.inl rfl) hf

theorem sched_surveyReply (hs : r.state = .unknown) (hm : r.measured.isSome) (st : Status) :
    Sched s (s.surveyReply u z st) := by
  have hf : r.state ≠ .faulted := by rw [hs]; decide
  cases st with
  | stopped => exact sched_evaluate hr hf fun _ => hm
  | running =>
    refine .change _ hr (fun _ => rfl) (harmless_of_same (fun _ => rfl) (fun _ => rfl) (fun _ => rfl)) (fun h => ?_) fun _ h => h
    obtain ⟨hfail, hcause, ⟨hstale, hretry, -, -, hpoll, hretries⟩, hsensed⟩ := h
    have hany : ({ r.halts with survey := true } : Halts).any = true := by simp [Halts.any]
    refine ⟨hfail, hcause, ⟨hstale, hretry, fun _ => .inr hs, ⟨fun _ => .inr ⟨hs, hany⟩, fun _ => rfl⟩, fun e => ?_, hretries⟩,
      hsensed⟩
    have hmoving := (hpoll e).1
    rw [hs] at hmoving
    cases hmoving
  | stalled => exact sched_block hr .stall (.inl rfl) hf

theorem sched_unknownHaltReply (hs : r.state = .unknown) (st : Status) : Sched s (s.unknownHaltReply u z r st) := by
  have hf : r.state ≠ .faulted := by rw [hs]; decide
  cases st with
  | stopped =>
    have hk : ∀ b : Bool, (if b then KeyState.disabled else .unknown) = .disabled ∨
        (if b then KeyState.disabled else .unknown) = .unknown := by decide
    change Sched s (s.enter u z (if r.halts.disable then .disabled else .unknown) none id)
    obtain h | h := hk r.halts.disable <;>
    · rw [h]
      exact sched_rest hr (by decide) hf (fun _ => rfl) retries_le (by rintro (e | e | e | e) <;> cases e) nofun
  | running =>
    change Sched s (if s.moveLimitMs < s.moveAge r then _ else s)
    split_ifs
    · exact sched_block hr .timeout (.inr rfl) hf
    · exact .refl s
  | stalled => exact sched_block hr .stall (.inl rfl) hf

/-- Taking a valid reply for a zone whose position was just written (R145). -/
theorem sched_takeReply (hm : r.measured.isSome) (v : Verb) (st : Status) : Sched s (s.takeReply u z r v st) := by
  unfold State.takeReply
  split
  · exact .refl s
  · next hs =>
    split_ifs
    · exact sched_unknownHaltReply hr hs st
    · exact sched_surveyReply hr hs hm st
  · next hs =>
    have hf : r.state ≠ .faulted := by rw [hs]; decide
    cases v with
    | move =>
      cases st with
      | running => exact sched_setPollDue hr hs
      | stopped => exact sched_setPollDue hr hs
      | stalled => exact sched_block hr .stall (.inl rfl) hf
    | sense =>
      cases st with
      | running => exact sched_runningReply hr hs true
      | stopped => exact sched_pollStopped hr hs
      | stalled => exact sched_block hr .stall (.inl rfl) hf
    | halt => exact sched_haltReply hr hs st
  iterate 3
    · next hs =>
      split_ifs
      · exact sched_block hr .stall (.inl rfl) (by rw [hs]; decide)
      · exact .refl s
  all_goals exact .refl s

end

/-! ### Failures -/

section
variable {s : State} {u z : Nat} {r : ZoneRec} (hr : s.zone? u z = some r)
include hr

/-- What a counted failure leaves as next work (R146). -/
theorem sched_afterFailure (v : Verb) (saved : Option PollDue) : Sched s (s.afterFailure u z v saved) := by
  rw [State.afterFailure.eq_def, hr]
  dsimp only
  split_ifs with hs
  · cases v with
    | move => exact sched_setPollDue hr hs
    | sense =>
      refine .change _ hr (fun q => ?_) (harmless_of_same (fun q => ?_) (fun q => ?_) (fun q => ?_)) (fun h => ?_)
        (fun _ h => ?_)
      · split_ifs <;> rfl
      · split_ifs <;> rfl
      · split_ifs <;> rfl
      · split_ifs <;> rfl
      · split_ifs with hany
        · exact h
        · exact recordLaws_moving h hs hs rfl rfl id (fun _ => Bool.eq_false_iff.mpr hany) id rfl
      · split_ifs <;> exact h
    | halt => exact .refl s
  · exact .refl s

theorem sched_takeFailure (v : Verb) (saved : Option PollDue) : Sched s (s.takeFailure u z r v saved) := by
  have hkeeps : ∀ q : ZoneRec, place { q with failures := q.failures + 1 } = place q := fun _ => rfl
  unfold State.takeFailure
  split_ifs with hdisabled hthird
  · exact .refl s
  · exact .enter .faulted (some .line) _ hr nofun (fun _ => rfl)
      (harmless_of_same (fun _ => rfl) (fun _ => rfl) (fun _ => rfl)) fun h =>
      recordLaws_at_rest (r := { r with failures := 3 }) nofun rfl (retries_le (r := r) h) ⟨nofun, fun _ => rfl,
          fun _ e => absurd rfl e⟩
        (by rintro (e | e | e | e) <;> cases e) nofun
  · refine Sched.trans (.change (fun q => { q with failures := q.failures + 1 }) hr (fun _ => rfl) (harmless_of_same
        (fun _ => rfl) (fun _ => rfl) (fun _ => rfl))
      (fun h => ?_) fun _ h => h) (sched_afterFailure (zone?_modZone_same hkeeps hr) v saved)
    obtain ⟨hfail, hlaws⟩ := h
    refine ⟨?_, hlaws⟩
    unfold FailuresOk at hfail ⊢
    split_ifs at hfail ⊢
    · omega
    · change r.failures + 1 ≤ 2
      omega

end

/-- The position a valid reply writes, and its width, lie in their ranges (R143). -/
def VerdictOk (v : Verdict) : Prop := ∀ st w p, v = .valid st w p → 200 ≤ w ∧ w ≤ 8191 ∧ p ≤ 500

theorem sched_writeEcho {s : State} {u z w p : Nat} {r : ZoneRec} (hr : s.zone? u z = some r) (hw : 200 ≤ w) (hw' : w ≤ 8191)
    (hp : p ≤ 500) : Sched s (s.writeEcho u z w p) := by
  rw [writeEcho_eq]
  refine .change _ hr (fun _ => rfl) ⟨fun _ => rfl, fun q _ => ⟨hp, fun x hx => ?_⟩⟩ (fun h => ?_) fun _ h => h
  · obtain rfl : w = x := Option.some.inj hx
    exact ⟨hw, hw'⟩
  · obtain ⟨hfail, hcause, hmotion, -, hstamp⟩ := h
    refine ⟨?_, hcause, hmotion, fun _ => rfl, hstamp⟩
    unfold FailuresOk at hfail ⊢
    change if r.state = .faulted then (if r.state = .faulted then r.failures else 0) = 3
      else (if r.state = .faulted then r.failures else 0) ≤ 2
    split_ifs at hfail ⊢
    · exact hfail
    · exact Nat.zero_le 2

/-- The verdict of a transaction is taken for its zone: without one nothing happens, and with one the tests that follow the
event end it (R144 to R146). -/
theorem sched_takeVerdict (s : State) (u : Nat) (t : Txn) {v : Verdict} (hv : VerdictOk v) :
    s.takeVerdict u t v = s ∨ ∃ x, Sched s x ∧ s.takeVerdict u t v = x.settle := by
  cases hr : s.zone? u t.zone with
  | none => exact .inl (by rw [State.takeVerdict, hr])
  | some r =>
    cases v with
    | valid st w p =>
      obtain ⟨hw, hw', hp⟩ := hv st w p rfl
      refine .inr ⟨_, ?_, takeVerdict_valid hr st w p⟩
      exact (sched_writeEcho hr hw hw' hp).trans
        (sched_takeReply (zone?_modZone_same (echoWritten_place s w p) hr) rfl t.verb st)
    | noReply => exact .inr ⟨_, sched_takeFailure hr t.verb t.savedPoll, by rw [State.takeVerdict, hr]⟩
    | lineError => exact .inr ⟨_, sched_takeFailure hr t.verb t.savedPoll, by rw [State.takeVerdict, hr]⟩

/-- The judgement of an echo writes in the ranges (R143). -/
theorem judgeEcho_ok (e : CalEntry) (symbol : Option Symbol) (width : Option Nat) : VerdictOk (judgeEcho e symbol width) := by
  intro st w p h
  obtain rfl | ⟨y, rfl⟩ := Option.eq_none_or_eq_some symbol
  · cases h
  obtain rfl | ⟨x, rfl⟩ := Option.eq_none_or_eq_some width
  · cases h
  by_cases hvalid : ReplyValid e y x
  · obtain ⟨st', hst⟩ := Option.ne_none_iff_exists'.mp fun hn => hvalid.2.1 ((statusOf_eq_none_iff _).mp hn)
    rw [judgeEcho_of_valid hvalid hst] at h
    cases h
    obtain ⟨-, -, hlo, hhi, -⟩ := hvalid
    refine ⟨hlo, hhi, ?_⟩
    unfold positionOf
    split_ifs <;> omega
  · rw [judgeEcho_of_not_valid hvalid] at h
    cases h

/-! ### Turns and grants -/

section
variable {s : State} {u z : Nat} {r : ZoneRec} (hr : s.zone? u z = some r)
include hr

theorem sched_startPoll (hs : r.state = .moving) (saved : Option PollDue) : Sched s (s.startPoll u z saved) :=
  Sched.trans (.change (fun q => { q with pollDue := none }) hr (fun _ => rfl) (harmless_of_same (fun _ => rfl)
      (fun _ => rfl) (fun _ => rfl))
    (fun h => recordLaws_moving h hs hs rfl rfl id nofun id rfl) fun _ h => h) (.setLine _ _ _)

theorem sched_startRetry (hs : r.state = .moving) (hany : r.halts.any = false) : Sched s (s.startRetry u z) :=
  Sched.trans (.change (fun q => { q with retryDue := false, moveStart := some s.clock.now.ms }) hr (fun _ => rfl)
      (harmless_of_same (fun _ => rfl) (fun _ => rfl) (fun _ => rfl))
    (fun h => recordLaws_moving h hs hs rfl rfl (fun _ => rfl) (fun _ => hany) id rfl)
    fun _ _ => rfl) (.setLine _ _ _)

end

theorem pollIsDue_moving {r : ZoneRec} {now : BitVec 32} (h : r.pollIsDue now = true) : r.state = .moving := by
  simp only [ZoneRec.pollIsDue, Bool.and_eq_true, beq_iff_eq] at h
  exact h.1.1

theorem sched_pollsAndRetries (u : Nat) (zs : List Nat) (s : State) : Sched s (pollsAndRetries u zs s).1 := by
  induction zs generalizing s with
  | nil => exact .refl s
  | cons z rest ih =>
    unfold pollsAndRetries
    cases hr : s.zone? u z with
    | none => exact ih s
    | some r =>
      dsimp only
      by_cases hpoll : r.pollIsDue s.clock.now.ms = true
      · rw [if_pos hpoll]
        exact sched_startPoll hr (pollIsDue_moving hpoll) _
      rw [if_neg hpoll]
      by_cases hretry : r.retryIsDue = true
      · obtain ⟨hs, hany, -⟩ := (retryIsDue_iff r).mp hretry
        rw [if_pos hretry]
        split_ifs
        · exact (sched_evaluate hr (by rw [hs]; decide) (measured_isSome_of_state (by rw [hs]; decide))).trans (ih _)
        · exact (sched_requeue hr hs).trans (ih _)
        · exact ih s
        · exact sched_startRetry hr hs hany
      · rw [if_neg hretry]
        exact ih s

theorem sched_moveOrSurvey (s : State) (u : Nat) : Sched s (s.moveOrSurvey u) := by
  unfold State.moveOrSurvey
  split_ifs with hpick
  · exact .grant hpick
  · cases s.surveyChoice u with
    | none => exact .refl s
    | some z => exact .setLine _ _ _

/-- A turn: a HALT's start, nothing, or changes that the tests after an event end (R149). -/
theorem sched_turn (s : State) (u : Nat) :
    s.turn u = s ∨ (∃ l, s.turn u = s.setLine u l) ∨ ∃ x, Sched s x ∧ s.turn u = x.settle := by
  unfold State.turn
  split_ifs
  · cases s.haltChoice u with
    | some z => exact .inr (.inl ⟨_, rfl⟩)
    | none =>
      have hpolls := sched_pollsAndRetries u ((s.unitZones u).map ZoneRec.zone) s
      refine .inr (.inr ?_)
      dsimp only
      split_ifs
      · exact ⟨_, hpolls, rfl⟩
      · exact ⟨_, hpolls.trans (sched_moveOrSurvey _ u), rfl⟩
  · exact .inl rfl

/-! ### Zone service -/

section
variable {s : State} {u z : Nat} {r : ZoneRec} (hr : s.zone? u z = some r)
include hr

theorem sched_addDisable (hs : r.state = .moving ∨ r.state = .unknown ∧ r.halts.any = true) : Sched s (s.addDisable u z) := by
  refine .change _ hr (fun _ => rfl) (harmless_of_same (fun _ => rfl) (fun _ => rfl) (fun _ => rfl)) (fun h => ?_) fun _ h => h
  obtain ⟨hfail, hcause, ⟨hstale, hretry, -, hstart, -, hretries⟩, hsensed⟩ := h
  have hany : ({ r.halts with disable := true } : Halts).any = true := by simp [Halts.any]
  refine ⟨hfail, hcause, ⟨hstale, hretry, fun _ => hs.imp id And.left, ⟨fun _ => ?_, fun _ => hstart.mpr hs⟩, nofun, hretries⟩,
    hsensed⟩
  exact hs.imp id fun h => ⟨h.1, hany⟩

theorem sched_disableAtOnce (hs : r.state ≠ .faulted) : Sched s (s.disableAtOnce u z) :=
  sched_rest hr (by decide) hs (fun _ => rfl) (fun _ => Nat.zero_le 2) (by rintro (e | e | e | e) <;> cases e) nofun

/-- DISABLE ZONE's effect: none, a halt reason, or changes that the tests after an event end (R81). -/
theorem sched_disableZone :
    s.disableZone u z r = s ∨ s.disableZone u z r = s.addDisable u z ∧ (r.state = .moving ∨ r.state = .unknown ∧
      r.halts.any = true) ∨ ∃ x, Sched s x ∧ Moves s x ∧ s.disableZone u z r = x.settle := by
  have hfailed : Sched s ((s.modZone u z fun r => { r with failures := 0 }).disableAtOnce u z) := by
    rw [State.disableAtOnce, enter_modZone (f := fun q => { q with failures := 0 })
      (g' := fun q => { q with failures := 0, retries := 0 }) (fun _ => rfl) (fun _ => rfl) (fun _ => rfl)]
    exact .enter .disabled none _ hr nofun (fun _ => rfl) (harmless_of_same (fun _ => rfl) (fun _ => rfl) (fun _ => rfl)) fun _ =>
      recordLaws_at_rest (r := { r with failures := 0, retries := 0 }) nofun (Nat.zero_le 2) (Nat.zero_le 2)
        ⟨nofun, nofun, fun _ _ => rfl⟩ (by rintro (e | e | e | e) <;> cases e) nofun
  have hmoves : Moves s ((s.modZone u z fun r => { r with failures := 0 }).disableAtOnce u z) :=
    (moves_modZone s u z (fun r => { r with failures := 0 }) fun _ => ⟨rfl, rfl⟩).trans
      (moves_enter _ _ _ _ _ _ fun _ => ⟨rfl, rfl⟩)
  have honce : r.state ≠ .faulted → ∃ x, Sched s x ∧ Moves s x ∧ (s.disableAtOnce u z).settle = x.settle := fun h =>
    ⟨_, sched_disableAtOnce hr h, moves_enter _ _ _ _ _ _ fun _ => ⟨rfl, rfl⟩, rfl⟩
  cases hs : r.state with
  | moving => exact .inr (.inl ⟨by rw [State.disableZone, hs], .inl rfl⟩)
  | unknown =>
    cases hany : r.halts.any with
    | true => exact .inr (.inl ⟨by rw [State.disableZone, hs]; exact if_pos hany, .inr ⟨rfl, rfl⟩⟩)
    | false =>
      refine .inr (.inr ?_)
      rw [State.disableZone, hs]
      dsimp only
      rw [if_neg (by rw [hany]; decide)]
      exact honce (by rw [hs]; decide)
  | disabled => exact .inl (by rw [State.disableZone, hs])
  | blocked => exact .inr (.inr ⟨_, hfailed, hmoves, by rw [State.disableZone, hs]⟩)
  | faulted => exact .inr (.inr ⟨_, hfailed, hmoves, by rw [State.disableZone, hs]⟩)
  | idle => exact .inr (.inr (by rw [State.disableZone, hs]; exact honce (by rw [hs]; decide)))
  | settled => exact .inr (.inr (by rw [State.disableZone, hs]; exact honce (by rw [hs]; decide)))
  | queued => exact .inr (.inr (by rw [State.disableZone, hs]; exact honce (by rw [hs]; decide)))
  | missed => exact .inr (.inr (by rw [State.disableZone, hs]; exact honce (by rw [hs]; decide)))

/-- A zone becomes UNKNOWN again (R83 to R85). -/
theorem sched_makeUnknown {g : ZoneRec → ZoneRec} (hg : Harmless g) (hstate : ∀ q, (g q).state = q.state)
    (hlaw : ∀ q, RecordLaws q → RecordLaws (g q)) : Sched s (s.makeUnknown u z g) := by
  refine .enter .unknown none _ hr nofun (fun q => hstate _) ⟨fun q => hg.1 _, fun q h => hg.2 _ h⟩ fun h =>
    hlaw _ (recordLaws_at_rest (r := { r with failures := 0 }) nofun (Nat.zero_le 2) (retries_le (r := r) h) ⟨nofun, nofun,
        fun _ _ => rfl⟩
      (by rintro (e | e | e | e) <;> cases e) nofun)

end

end Sys2Proof.Claims
end

section
/-! PROOF. What every change of the Move Scheduler and the key lines keeps: the scheduler's laws, the supply timers' laws
between events, the fixed fields of the records (R13, R106, R111, R117, R126, R129, R157 to R160). -/

namespace Sys2Proof.Machine

theorem Turns.nz {s t : State} (h : Turns s t) : t.nz = s.nz := by rw [h.rest]
theorem Turns.limits {s t : State} (h : Turns s t) : t.limits = s.limits := by rw [h.rest]
theorem Turns.press {s t : State} (h : Turns s t) : t.press = s.press := by rw [h.rest]
theorem Turns.job {s t : State} (h : Turns s t) : t.job = s.job := by rw [h.rest]

end Sys2Proof.Machine

namespace Sys2Proof.Claims

open Sys2Proof.Machine Sys2Proof.Safety

/-! ### A table with one record changed -/

section
variable {s : State} {u z : Nat} {r : ZoneRec} (hplaces : (s.zones.map place).Nodup) (hr : s.zone? u z = some r)
include hplaces hr

/-- A record of the changed table is the changed one or an old one of another place. -/
theorem mem_zoneSet_cases {g : ZoneRec → ZoneRec} {q : ZoneRec} (hq : q ∈ zoneSet s u z g) :
    q = g r ∨ q ∈ s.zones ∧ ¬ (q.unit = u ∧ q.zone = z) := by
  obtain ⟨x, hx, rfl⟩ := List.mem_map.mp hq
  by_cases hz : x.unit = u ∧ x.zone = z
  · obtain rfl : x = r := Option.some.inj (((zone?_eq_some_iff hplaces).mpr ⟨hx, hz⟩).symm.trans hr)
    exact .inl (if_pos hz)
  · rw [if_neg hz]
    exact .inr ⟨hx, hz⟩

omit hplaces hr in
theorem mem_zoneSet_of_other {g : ZoneRec → ZoneRec} {q : ZoneRec} (hq : q ∈ s.zones) (hz : ¬ (q.unit = u ∧ q.zone = z)) :
    q ∈ zoneSet s u z g :=
  List.mem_map.mpr ⟨q, hq, if_neg hz⟩

/-- A change that makes the record counted adds one to a count. -/
theorem countP_zoneSet_succ {g : ZoneRec → ZoneRec} {p : ZoneRec → Bool} (hold : p r = false) (hnew : p (g r) = true) :
    (zoneSet s u z g).countP p = s.zones.countP p + 1 := by
  obtain ⟨hmem, hu, hz⟩ := State.zone?_some hr
  obtain ⟨before, after, hsplit⟩ := List.append_of_mem hmem
  have hother : ∀ q ∈ before ++ after, (if q.unit = u ∧ q.zone = z then g q else q) = q := fun q hq => if_neg fun h => by
    rw [hsplit, List.map_append, List.map_cons, List.nodup_middle] at hplaces
    refine (List.nodup_cons.mp hplaces).1 ?_
    rw [← List.map_append]
    exact List.mem_map.mpr ⟨q, hq, by rw [place, place, h.1, h.2, hu, hz]⟩
  rw [zoneSet, hsplit, List.map_append, List.map_cons, if_pos ⟨hu, hz⟩,
    List.map_congr_left fun q hq => hother q (List.mem_append_left _ hq),
    List.map_congr_left fun q hq => hother q (List.mem_append_right _ hq), List.map_id', List.map_id', List.countP_append,
    List.countP_append, List.countP_cons_of_pos hnew, List.countP_cons_of_neg (by rw [hold]; decide)]
  omega

end

/-- A change that makes no record counted adds nothing to a count. -/
theorem countP_zoneSet_le {s : State} {u z : Nat} {g : ZoneRec → ZoneRec} {p : ZoneRec → Bool}
    (h : ∀ q, p (g q) = true → p q = true) : (zoneSet s u z g).countP p ≤ s.zones.countP p := by
  rw [zoneSet, List.countP_map]
  refine List.countP_mono_left fun q _ hq => ?_
  rw [Function.comp_apply] at hq
  split_ifs at hq
  exacts [h q hq, hq]

/-- Every queue is empty exactly when each unit's is. -/
theorem queues_nil_iff (s : State) : (∀ q ∈ s.queues.toList, q = []) ↔ ∀ v, s.queue v = [] := by
  constructor
  · intro h v
    rw [State.queue, at1]
    split_ifs
    · rfl
    · rw [vector_getD]
      by_cases hv : v - 1 < 8
      · rw [Vector.getElem?_eq_getElem hv, Option.getD_some]
        exact h _ (by simp)
      · rw [Vector.getElem?_eq_none (by omega), Option.getD_none]
  · intro h q hq
    obtain ⟨i, hi, rfl⟩ := List.mem_iff_getElem.mp hq
    have hi8 : i < 8 := by simpa using hi
    have hqueue := h (i + 1)
    rw [State.queue, at1, if_neg (Nat.succ_ne_zero i), vector_getD, Nat.add_sub_cancel, Vector.getElem?_eq_getElem hi8] at hqueue
    simpa using hqueue

/-! ### A grant -/

/-- A granted move: the head leaves its queue and becomes MOVING, and its line starts the MOVE (R111, R116, R117). -/
theorem grantTo_eq {s : State} {u z : Nat} {rest : List Nat} (hqueue : s.queue u = z :: rest) :
    s.grantTo u =
      ({ (s.dequeue u z).modZone u z (fun r => { r with state := .moving, moveStart := some s.clock.now.ms }) with
        pointer := u }).startMove u z := by
  rw [State.grantTo, hqueue]

/-- What a grant finds: a line in range with the head of its queue, the supply ON, and the budget not used up. -/
theorem of_arbiterPick {s : State} {u : Nat} (h : s.arbiterPick = some u) :
    1 ≤ u ∧ u ≤ 8 ∧ s.movingCount < s.limits.budget ∧ (∃ z rest, s.queue u = z :: rest) ∧ s.supply.state = .on ∧ s.hold = false ∧
      s.press.freeze.filtered = false ∧ (s.line u).phase = .free := by
  obtain ⟨hcount, i, hi, hline, ⟨hqueue, hon, hhold, hfreeze, hfree, -⟩, -⟩ := (arbiterPick_iff s u).mp h
  rw [arbiterLine] at hline
  exact ⟨by omega, by omega, hcount, List.exists_cons_of_ne_nil hqueue, hon, hhold, hfreeze, hfree⟩

section
variable {s : State} {u z : Nat} {rest : List Nat} (hqueue : s.queue u = z :: rest)
include hqueue

theorem grantTo_zones :
    (s.grantTo u).zones = zoneSet s u z (fun r => { r with state := .moving, moveStart := some s.clock.now.ms }) := by
  rw [grantTo_eq hqueue, ← zoneSet_eq]
  rfl

theorem grantTo_supply : (s.grantTo u).supply = s.supply := by
  rw [grantTo_eq hqueue]
  rfl

theorem grantTo_queue (hu : 1 ≤ u) (hu8 : u ≤ 8) (hnodup : (s.queue u).Nodup) (v : Nat) :
    (s.grantTo u).queue v = if v = u then rest else s.queue v := by
  have hsame : (s.grantTo u).queue v = (s.dequeue u z).queue v := by
    rw [grantTo_eq hqueue]
    rfl
  rw [hsame, State.queue_dequeue]
  by_cases hv : v = u
  · rw [if_pos ⟨hv, hu, hu8⟩, if_pos hv, hqueue]
    rw [hqueue, List.nodup_cons] at hnodup
    rw [List.filter_cons_of_neg (by simp), List.filter_eq_self]
    intro y hy
    exact bne_iff_ne.mpr fun e => hnodup.1 (e ▸ hy)
  · rw [if_neg fun h => hv h.1, if_neg hv]

end

/-! ### The laws of records and queues -/

/-- The laws of the Move Scheduler that no event suspends while its zones are handled one by one. -/
structure Base (s : State) : Prop where
  records : RecordsOk s
  laws : ∀ r ∈ s.zones, RecordLaws r
  queues : QueuesOk s
  moving : s.movingCount ≤ 24
  budget : s.limits.budget ≤ 24

/-- The laws speak of configuration, records, queues and budget alone. -/
theorem Base.congr {s t : State} (h : Base s) (hnz : t.nz = s.nz) (hzones : t.zones = s.zones) (hqueues : t.queues = s.queues)
    (hlimits : t.limits = s.limits) : Base t := by
  obtain ⟨⟩ := s
  obtain ⟨⟩ := t
  obtain rfl := hnz
  obtain rfl := hzones
  obtain rfl := hqueues
  obtain rfl := hlimits
  exact ⟨h.records, h.laws, h.queues, h.moving, h.budget⟩

/-- Records in their places stay those of the configuration. -/
theorem turns_records {s t : State} (h : Turns s t) (hs : RecordsOk s) : RecordsOk t := by
  unfold RecordsOk
  rw [h.nz, h.pairs]
  exact hs

/-- A pair has a record in one state exactly when it has one in the other. -/
theorem zone?_isSome_congr {s t : State} (hs : RecordsOk s) (ht : RecordsOk t) (hnz : t.nz = s.nz) (u z : Nat) :
    (t.zone? u z).isSome ↔ (s.zone? u z).isSome := by
  rw [records_zone?_isSome hs, records_zone?_isSome ht, State.zonesOf, State.zonesOf, hnz]

/-- The queues after one zone's key state changed: only the queue of its unit can differ, and there only the zone itself
may have come or gone. -/
theorem queuesOk_of_one {s t : State} {u z : Nat} {q' : ZoneRec} {queue : List Nat} (hs : RecordsOk s) (ht : RecordsOk t)
    (hnz : t.nz = s.nz) (hq : QueuesOk s) (hzone : (s.zone? u z).isSome) (hplace : place q' = (u, z))
    (hzones : ∀ q ∈ t.zones, q = q' ∨ q ∈ s.zones ∧ ¬ (q.unit = u ∧ q.zone = z))
    (hqueue : ∀ v, t.queue v = if v = u then queue else s.queue v) (hnodup : queue.Nodup)
    (hself : z ∈ queue ↔ q'.state = .queued) (hothers : ∀ y, y ≠ z → (y ∈ queue ↔ y ∈ s.queue u)) : QueuesOk t := by
  obtain ⟨hmem, huniq⟩ := hq
  obtain ⟨hunit', hzone'⟩ := place_eq_iff.mp hplace
  refine ⟨fun q hqz => ?_, fun v hv => ?_⟩
  · obtain rfl | ⟨hold, hne⟩ := hzones q hqz
    · rw [hqueue, hunit', if_pos rfl, hzone']
      exact hself
    · rw [hqueue, ← hmem q hold]
      by_cases hu : q.unit = u
      · rw [if_pos hu, hu]
        exact hothers _ fun e => hne ⟨hu, e⟩
      · rw [if_neg hu]
  · obtain ⟨hn, hsome⟩ := huniq v hv
    rw [hqueue]
    split_ifs with hvu
    · refine ⟨hnodup, fun y hy => ?_⟩
      rw [zone?_isSome_congr hs ht hnz, hvu]
      by_cases hyz : y = z
      · rw [hyz]
        exact hzone
      · rw [← hvu]
        exact hsome y (by rw [hvu]; exact (hothers y hyz).mp hy)
    · exact ⟨hn, fun y hy => by rw [zone?_isSome_congr hs ht hnz]; exact hsome y hy⟩

/-- The unit of a zone is among those whose queues the laws speak of. -/
theorem mem_range9 {u : Nat} (h : u ≤ 8) : u ∈ List.range 9 := List.mem_range.mpr (by omega)

section
variable {s : State} {u z : Nat} {r : ZoneRec}

/-- The zone enters a key state (R106, R111). -/
theorem Base.enter (h : Base s) (hr : s.zone? u z = some r) {k : KeyState} {cause : Option FaultCause} {g : ZoneRec → ZoneRec}
    (hk : k ≠ .moving) (hstate : ∀ q, (g q).state = q.state) (hg : Harmless g)
    (hlaw : RecordLaws r → RecordLaws (g (atRest k cause r))) : Base (s.enter u z k cause g) := by
  have hturns : Turns s (s.enter u z k cause g) := (moves_enter s u z k cause g fun q => place_eq_iff.mp (hg.place q)).turns
  have hplaces := records_nodup h.records
  obtain ⟨hmem, hunit, hzone⟩ := State.zone?_some hr
  obtain ⟨hu, hu8⟩ := records_unit_of_zone? h.records hr
  have hrecords := turns_records hturns h.records
  have hzones : ∀ q ∈ (s.enter u z k cause g).zones, q = g (atRest k cause r) ∨ q ∈ s.zones ∧ ¬ (q.unit = u ∧ q.zone = z) := by
    intro q hq
    rw [enter_zones hr] at hq
    exact mem_zoneSet_cases hplaces hr (g := fun q => g (atRest k cause q)) hq
  obtain ⟨hqmem, hquniq⟩ := h.queues
  have hin : z ∈ s.queue u ↔ r.state = .queued := by
    rw [← hqmem r hmem, hunit, hzone]
  have hnew : z ∉ (if r.state = .queued then (s.queue u).filter (fun y => y != z) else s.queue u) := by
    split_ifs with hqueued
    · simp
    · rwa [hin]
  refine ⟨hrecords, fun q hq => ?_, ?_, ?_, hturns.limits ▸ h.budget⟩
  · obtain rfl | ⟨hold, -⟩ := hzones q hq
    · exact hlaw (h.laws r hmem)
    · exact h.laws q hold
  · refine queuesOk_of_one h.records hrecords hturns.nz h.queues (by rw [hr]; rfl) ?_ hzones (enter_queue hr k cause g hu hu8)
      ?_ ?_ ?_
    · rw [hg.place]
      exact place_eq_iff.mpr ⟨hunit, hzone⟩
    · rw [List.nodup_append]
      refine ⟨?_, ?_, fun a ha b hb => ?_⟩
      · split_ifs
        exacts [(hquniq u (mem_range9 hu8)).1.filter _, (hquniq u (mem_range9 hu8)).1]
      · split_ifs <;> simp
      · rintro rfl
        split_ifs at hb
        · exact hnew (List.mem_singleton.mp hb ▸ ha)
        · cases hb
    · rw [hstate, List.mem_append]
      change _ ↔ k = .queued
      constructor
      · rintro (hz | hz)
        · exact absurd hz hnew
        · split_ifs at hz with hkq
          · exact hkq
          · cases hz
      · intro hkq
        exact .inr (by rw [if_pos hkq]; exact List.mem_singleton_self z)
    · intro y hy
      have hlast : y ∉ (if k = .queued then [z] else []) := by split_ifs <;> simp [hy]
      rw [List.mem_append, or_iff_left hlast]
      split_ifs
      · simp [hy]
      · rfl
  · refine (le_of_eq_of_le (congrArg _ (enter_zones hr k cause g)) (countP_zoneSet_le fun q hq => ?_)).trans h.moving
    rw [beq_iff_eq, hstate] at hq
    exact absurd hq hk

/-- A record changes within its key state. -/
theorem Base.change (h : Base s) (hr : s.zone? u z = some r) {f : ZoneRec → ZoneRec} (hstate : ∀ q, (f q).state = q.state)
    (hf : Harmless f) (hlaw : RecordLaws r → RecordLaws (f r)) : Base (s.modZone u z f) := by
  have hturns : Turns s (s.modZone u z f) := (moves_modZone s u z f fun q => place_eq_iff.mp (hf.place q)).turns
  have hplaces := records_nodup h.records
  obtain ⟨hmem, hunit, hzone⟩ := State.zone?_some hr
  obtain ⟨hqmem, hquniq⟩ := h.queues
  obtain ⟨hu, hu8⟩ := records_unit_of_zone? h.records hr
  have hrecords := turns_records hturns h.records
  have hzones : ∀ q ∈ (s.modZone u z f).zones, q = f r ∨ q ∈ s.zones ∧ ¬ (q.unit = u ∧ q.zone = z) := by
    intro q hq
    rw [zoneSet_eq] at hq
    exact mem_zoneSet_cases hplaces hr hq
  refine ⟨hrecords, fun q hq => ?_, ?_, ?_, h.budget⟩
  · obtain rfl | ⟨hold, -⟩ := hzones q hq
    · exact hlaw (h.laws r hmem)
    · exact h.laws q hold
  · refine queuesOk_of_one (queue := s.queue u) h.records hrecords rfl h.queues (by rw [hr]; rfl)
      ((hf.place r).trans (place_eq_iff.mpr ⟨hunit, hzone⟩)) hzones (fun v => ?_) (hquniq u (mem_range9 hu8)).1 ?_
      fun _ _ => Iff.rfl
    · split_ifs with hv
      · rw [hv]; rfl
      · rfl
    · rw [hstate, ← hqmem r hmem, hunit, hzone]
  · refine (le_of_eq_of_le (congrArg _ (zoneSet_eq s u z f)) (countP_zoneSet_le fun q hq => ?_)).trans h.moving
    rwa [hstate] at hq

/-- The record at the head of a queue is QUEUED (R111). -/
theorem Base.head (h : Base s) {rest : List Nat} (hu8 : u ≤ 8) (hqueue : s.queue u = z :: rest) :
    ∃ r, s.zone? u z = some r ∧ r.state = .queued := by
  have hz : z ∈ s.queue u := by rw [hqueue]; exact List.mem_cons_self
  obtain ⟨r, hr⟩ := Option.isSome_iff_exists.mp ((h.queues.2 u (mem_range9 hu8)).2 z hz)
  obtain ⟨hmem, hunit, hzone⟩ := State.zone?_some hr
  exact ⟨r, hr, (h.queues.1 r hmem).mp (by rw [hunit, hzone]; exact hz)⟩

/-- One more zone is MOVING after a grant (R117). -/
theorem grantTo_movingCount (h : Base s) {rest : List Nat} (hu8 : u ≤ 8) (hqueue : s.queue u = z :: rest) :
    (s.grantTo u).movingCount = s.movingCount + 1 := by
  obtain ⟨r, hr, hstate⟩ := h.head hu8 hqueue
  rw [State.movingCount, grantTo_zones hqueue, countP_zoneSet_succ (records_nodup h.records) hr
    (g := fun r => { r with state := .moving, moveStart := some s.clock.now.ms }) (by rw [hstate]; rfl) rfl]
  rfl

/-- A grant (R111, R116, R117). -/
theorem Base.grant (h : Base s) (hpick : s.arbiterPick = some u) : Base (s.grantTo u) := by
  obtain ⟨hu, hu8, hcount, ⟨z, rest, hqueue⟩, -⟩ := of_arbiterPick hpick
  obtain ⟨r, hr, hstate⟩ := h.head hu8 hqueue
  obtain ⟨hmem, hunit, hzone⟩ := State.zone?_some hr
  have hplaces := records_nodup h.records
  have hturns := turns_grantTo s u
  have hrecords := turns_records hturns h.records
  have hnodup := (h.queues.2 u (mem_range9 hu8)).1
  have hzones : ∀ q ∈ (s.grantTo u).zones,
      q = { r with state := .moving, moveStart := some s.clock.now.ms } ∨ q ∈ s.zones ∧ ¬ (q.unit = u ∧ q.zone = z) := by
    intro q hq
    rw [grantTo_zones hqueue] at hq
    exact mem_zoneSet_cases hplaces hr (g := fun r => { r with state := .moving, moveStart := some s.clock.now.ms }) hq
  refine ⟨hrecords, fun q hq => ?_, ?_, ?_, hturns.limits ▸ h.budget⟩
  · obtain rfl | ⟨hold, -⟩ := hzones q hq
    · obtain ⟨hfail, ⟨-, -, hnone⟩, ⟨-, -, -, -, hpoll, hretries⟩, hsensed, -⟩ := h.laws r hmem
      refine ⟨?_, ⟨nofun, nofun, fun _ _ => hnone (by rw [hstate]; decide) (by rw [hstate]; decide)⟩,
        ⟨fun _ => rfl, fun _ => rfl, fun _ => .inl rfl, ⟨fun _ => .inl rfl, fun _ => rfl⟩, fun e => ?_, hretries⟩,
        fun _ => hsensed (by rw [hstate]; decide), nofun⟩
      · exact failures_le (r := r) (h.laws r hmem) (by rw [hstate]; decide)
      · have hmoving := (hpoll e).1
        rw [hstate] at hmoving
        cases hmoving
    · exact h.laws q hold
  · have hnotin : z ∉ rest := by
      rw [hqueue, List.nodup_cons] at hnodup
      exact hnodup.1
    refine queuesOk_of_one (q' := { r with state := .moving, moveStart := some s.clock.now.ms }) (queue :=
        rest) h.records hrecords hturns.nz h.queues (by rw [hr]; rfl)
      (place_eq_iff.mpr ⟨hunit, hzone⟩) hzones (grantTo_queue hqueue hu hu8 hnodup) ?_ ?_ ?_
    · rw [hqueue, List.nodup_cons] at hnodup
      exact hnodup.2
    · exact ⟨fun hz => absurd hz hnotin, nofun⟩
    · intro y hy
      rw [hqueue, List.mem_cons, or_iff_right hy]
  · rw [grantTo_movingCount h hu8 hqueue]
    have hbudget := h.budget
    omega

end

/-- Every change of the Move Scheduler keeps the laws of records and queues. -/
theorem Sched.base {s t : State} (h : Sched s t) (hs : Base s) : Base t := by
  induction h with
  | refl s => exact hs
  | trans _ _ h1 h2 => exact h2 (h1 hs)
  | enter k cause g hr hk hstate hg hlaw => exact hs.enter hr hk hstate hg hlaw
  | change f hr hstate hf hlaw hretry => exact hs.change hr hstate hf hlaw
  | grant hpick => exact hs.grant hpick
  | setLine s u l => exact hs.congr rfl rfl rfl rfl
  | post s n => exact hs.congr (moves_post s n).turns.nz (by simp) (by simp) (moves_post s n).turns.limits
  | settle s => exact hs.congr (moves_settle s).turns.nz (by simp) (by simp) (moves_settle s).turns.limits

/-! ### Moving zones and the supply, retries and FREEZE -/

/-- Zones move while the supply is ON alone (R117, R161). -/
def MovingNeedsSupply (s : State) : Prop := ∀ r ∈ s.zones, r.state = .moving → s.supply.state = .on

theorem enqueue_supply_on {p p' : Supply} {c : Prop} [Decidable c] {ms : BitVec 32} (hp : p.state = .on)
    (h : p' = if p.state = .off ∧ c then
        if p.ok.filtered then { p with state := .on, warmUp := none, standby := none }
        else { p with state := .warming, warmUp := some ms, standby := none }
      else { p with standby := none }) : p'.state = .on := by
  rw [if_neg fun e => by rw [hp] at e; cases e.1] at h
  rw [h]
  exact hp

/-- An entered key state leaves a supply ON as it is. -/
theorem enter_supply_on {s : State} {u z : Nat} {r : ZoneRec} (hrecords : RecordsOk s) (hr : s.zone? u z = some r) (k : KeyState)
    (cause : Option FaultCause) (g : ZoneRec → ZoneRec) (hon : s.supply.state = .on) :
    (s.enter u z k cause g).supply.state = .on := by
  by_cases hk : k = .queued
  · obtain ⟨hu, hu8⟩ := records_unit_of_zone? hrecords hr
    rw [hk]
    exact enqueue_supply_on hon (enter_supply_queued hr cause g hu hu8)
  · rw [enter_supply_same hr k cause g hk]
    exact hon

theorem Sched.movingNeedsSupply {s t : State} (h : Sched s t) (hs : Base s) (hm : MovingNeedsSupply s) :
    MovingNeedsSupply t := by
  induction h with
  | refl s => exact hm
  | trans h1 _ ih1 ih2 => exact ih2 (h1.base hs) (ih1 hs hm)
  | @enter s u z r k cause g hr hk hstate hg hlaw =>
    intro q hq hmoving
    rw [enter_zones hr] at hq
    obtain rfl | ⟨hold, -⟩ := mem_zoneSet_cases (records_nodup hs.records) hr (g := fun q => g (atRest k cause q)) hq
    · rw [hstate] at hmoving
      exact absurd hmoving hk
    · exact enter_supply_on hs.records hr k cause g (hm q hold hmoving)
  | change f hr hstate hf hlaw hretry =>
    intro q hq hmoving
    rw [zoneSet_eq] at hq
    obtain rfl | ⟨hold, -⟩ := mem_zoneSet_cases (records_nodup hs.records) hr hq
    · rw [hstate] at hmoving
      exact hm _ (State.zone?_some hr).1 hmoving
    · exact hm q hold hmoving
  | grant hpick =>
    obtain ⟨-, -, -, ⟨z, rest, hqueue⟩, hon, -⟩ := of_arbiterPick hpick
    intro q _ _
    rw [grantTo_supply hqueue]
    exact hon
  | setLine s u l => exact hm
  | post s n =>
    intro q hq hmoving
    rw [State.post_zones] at hq
    rw [State.post_supply]
    exact hm q hq hmoving
  | settle s =>
    intro q hq hmoving
    rw [settle_zones] at hq
    rw [settle_supply_state]
    exact hm q hq hmoving

theorem Sched.freezeOk {s t : State} (h : Sched s t) (hs : Base s) (hf : FreezeOk s) : FreezeOk t := by
  induction h with
  | refl s => exact hf
  | trans h1 _ ih1 ih2 => exact ih2 (h1.base hs) (ih1 hs hf)
  | @enter s u z r k cause g hr hk hstate hg hlaw =>
    have hturns := (moves_enter s u z k cause g fun q => place_eq_iff.mp (hg.place q)).turns
    intro hfreeze q hq
    rw [hturns.press] at hfreeze
    rw [enter_zones hr] at hq
    obtain rfl | ⟨hold, -⟩ := mem_zoneSet_cases (records_nodup hs.records) hr (g := fun q => g (atRest k cause q)) hq
    · obtain ⟨-, -, ⟨-, hretry, -⟩, -⟩ := hlaw (hs.laws r (State.zone?_some hr).1)
      refine Bool.eq_false_iff.mpr fun e => hk ?_
      have hmoving := hretry e
      rwa [hstate] at hmoving
    · exact hf hfreeze q hold
  | change f hr hstate hf' hlaw hretry =>
    intro hfreeze q hq
    rw [zoneSet_eq] at hq
    obtain rfl | ⟨hold, -⟩ := mem_zoneSet_cases (records_nodup hs.records) hr hq
    · exact hretry hfreeze (hf hfreeze _ (State.zone?_some hr).1)
    · exact hf hfreeze q hold
  | @grant s u hpick =>
    intro hfreeze
    obtain ⟨-, -, -, -, -, -, hoff, -⟩ := of_arbiterPick hpick
    rw [(turns_grantTo s u).press, hoff] at hfreeze
    cases hfreeze
  | setLine s u l => exact hf
  | post s n =>
    intro hfreeze q hq
    rw [State.post_zones] at hq
    exact hf (by rwa [State.post_press] at hfreeze) q hq
  | settle s =>
    intro hfreeze q hq
    rw [settle_zones] at hq
    exact hf (by rwa [(moves_settle s).turns.press] at hfreeze) q hq

/-! ### The supply timers between events -/

/-- What stands of the supply timers' laws while an event's zones are handled: a running standby timer has its condition, the
warm-up limit runs exactly in WARMING, and the queues are empty while OFF (R157, R159, R160). -/
structure TimersMid (s : State) : Prop where
  standby : s.supply.standby.isSome → s.standbyCondition = true ∧ s.limits.standbyS ≠ 0
  warmUp : s.supply.warmUp.isSome ↔ s.supply.state = .warming
  off : s.supply.state = .off → ∀ v, s.queue v = []

theorem standbyCondition_iff_queue (s : State) :
    s.standbyCondition = true ↔ s.supply.state = .on ∧ (∀ v, s.queue v = []) ∧ ∀ r ∈ s.zones, r.state ≠ .moving := by
  rw [standbyCondition_iff, queues_nil_iff]

theorem timersMid_of_timersOk {s : State} (h : TimersOk s) : TimersMid s := by
  obtain ⟨hstandby, hwarm, hoff, -⟩ := h
  exact ⟨hstandby.mp, hwarm, fun e => (queues_nil_iff s).mp ((queuesEmpty_iff s).mp (hoff e))⟩

/-- The laws speak of zones, queues, supply and the standby time alone. -/
theorem TimersMid.congr {s t : State} (h : TimersMid s) (hzones : t.zones = s.zones) (hqueues : t.queues = s.queues)
    (hsupply : t.supply = s.supply) (hlimits : t.limits = s.limits) : TimersMid t := by
  obtain ⟨⟩ := s
  obtain ⟨⟩ := t
  obtain rfl := hzones
  obtain rfl := hqueues
  obtain rfl := hsupply
  obtain rfl := hlimits
  exact ⟨h.standby, h.warmUp, h.off⟩

/-- With no zone in a queue, a zone that enters a key state leaves the queues empty but for itself. -/
theorem enter_queue_nil {s : State} {u z : Nat} {r : ZoneRec} (hr : s.zone? u z = some r) (hu : 1 ≤ u) (hu8 : u ≤ 8)
    {k : KeyState} (hk : k ≠ .queued) (cause : Option FaultCause) (g : ZoneRec → ZoneRec) (h : ∀ v, s.queue v = []) (v : Nat) :
    (s.enter u z k cause g).queue v = [] := by
  rw [enter_queue hr k cause g hu hu8, if_neg hk, List.append_nil, h, h]
  split_ifs <;> rfl

theorem TimersMid.enter {s : State} {u z : Nat} {r : ZoneRec} (ht : TimersMid s) (hs : Base s) (hr : s.zone? u z = some r)
    {k : KeyState} {cause : Option FaultCause} {g : ZoneRec → ZoneRec} (hk : k ≠ .moving)
    (hstate : ∀ q, (g q).state = q.state) (hg : Harmless g) : TimersMid (s.enter u z k cause g) := by
  have hlimits := (moves_enter s u z k cause g fun q => place_eq_iff.mp (hg.place q)).turns.limits
  obtain ⟨hu, hu8⟩ := records_unit_of_zone? hs.records hr
  by_cases hq : k = .queued
  · subst hq
    have hsupply := enter_supply_queued hr cause g hu hu8
    by_cases hoff : s.supply.state = .off
    · have hleft : (if r.state = .queued then (s.queue u).filter (fun y => y != z) else s.queue u) = [] := by
        rw [ht.off hoff u]
        split_ifs <;> rfl
      rw [if_pos ⟨hoff, hleft⟩] at hsupply
      split_ifs at hsupply with hok
      · refine ⟨fun e => ?_, ?_, fun e => ?_⟩ <;> rw [hsupply] at *
        · cases e
        · exact ⟨nofun, nofun⟩
        · cases e
      · refine ⟨fun e => ?_, ?_, fun e => ?_⟩ <;> rw [hsupply] at *
        · cases e
        · exact ⟨fun _ => rfl, fun _ => rfl⟩
        · cases e
    · rw [if_neg fun e => hoff e.1] at hsupply
      refine ⟨fun e => ?_, ?_, fun e => ?_⟩ <;> rw [hsupply] at *
      · cases e
      · exact ht.warmUp
      · exact absurd e hoff
  · have hsupply := enter_supply_same hr k cause g hq
    refine ⟨fun e => ?_, by rw [hsupply]; exact ht.warmUp, fun e => ?_⟩
    · rw [hsupply] at e
      obtain ⟨hcond, hset⟩ := ht.standby e
      obtain ⟨hon, hempty, hnone⟩ := (standbyCondition_iff_queue s).mp hcond
      rw [hlimits, standbyCondition_iff_queue, hsupply]
      refine ⟨⟨hon, enter_queue_nil hr hu hu8 hq cause g hempty, fun q hmem => ?_⟩, hset⟩
      rw [enter_zones hr] at hmem
      obtain rfl | ⟨hold, -⟩ := mem_zoneSet_cases (records_nodup hs.records) hr (g := fun q => g (atRest k cause q)) hmem
      · rw [hstate]
        exact hk
      · exact hnone q hold
    · rw [hsupply] at e
      exact enter_queue_nil hr hu hu8 hq cause g (ht.off e)

theorem settle_limits (s : State) : s.settle.limits = s.limits := (moves_settle s).turns.limits

theorem standbyCondition_settle (s : State) : s.settle.standbyCondition = s.standbyCondition := by
  rw [Bool.eq_iff_iff, standbyCondition_iff, standbyCondition_iff, settle_supply_state, settle_queues, settle_zones]

/-- The supply after the tests of an event: the standby timer started where it is due (R160). -/
theorem settle_supply_eq (s : State) :
    s.settle.supply = { s.supply with standby := s.settle.supply.standby } ∧
      s.settle.supply.standby =
        if s.standbyCondition = true ∧ s.supply.standby = none ∧ s.limits.standbyS ≠ 0 then
          some ⟨s.clock.now.ms, s.limits.standbyS * 1000⟩
        else s.supply.standby := by
  rw [settle_supply]
  by_cases h : StandbyStarts s
  · rw [standbyRefresh_of_starts h]
    obtain ⟨hcond, hnone, hset⟩ := h
    exact ⟨rfl, (if_pos ⟨(standbyCondition_iff s).mpr hcond, hnone, hset⟩).symm⟩
  · rw [standbyRefresh_of_not_starts h]
    refine ⟨rfl, (if_neg fun e => h ?_).symm⟩
    obtain ⟨hcond, hnone, hset⟩ := e
    exact ⟨(standbyCondition_iff s).mp hcond, hnone, hset⟩

theorem TimersMid.settle {s : State} (h : TimersMid s) : TimersMid s.settle := by
  obtain ⟨hsupply, hstandby⟩ := settle_supply_eq s
  refine ⟨fun e => ?_, ?_, fun e v => ?_⟩
  · rw [hstandby] at e
    rw [standbyCondition_settle, settle_limits]
    split_ifs at e with hstart
    · exact ⟨hstart.1, hstart.2.2⟩
    · exact h.standby e
  · rw [hsupply]
    exact h.warmUp
  · rw [settle_queue]
    rw [settle_supply_state] at e
    exact h.off e v

theorem Sched.timersMid {s t : State} (h : Sched s t) (hs : Base s) (hm : TimersMid s) : TimersMid t := by
  induction h with
  | refl s => exact hm
  | trans h1 _ ih1 ih2 => exact ih2 (h1.base hs) (ih1 hs hm)
  | enter k cause g hr hk hstate hg hlaw => exact hm.enter hs hr hk hstate hg
  | @change s u z r f hr hstate hf hlaw hretry =>
    refine ⟨fun e => ?_, hm.warmUp, hm.off⟩
    obtain ⟨hcond, hset⟩ := hm.standby e
    obtain ⟨hon, hempty, hnone⟩ := (standbyCondition_iff_queue s).mp hcond
    refine ⟨(standbyCondition_iff_queue _).mpr ⟨hon, hempty, fun q hq => ?_⟩, hset⟩
    rw [zoneSet_eq] at hq
    obtain rfl | ⟨hold, -⟩ := mem_zoneSet_cases (records_nodup hs.records) hr hq
    · rw [hstate]
      exact hnone _ (State.zone?_some hr).1
    · exact hnone q hold
  | @grant s u hpick =>
    obtain ⟨hu, hu8, -, ⟨z, rest, hqueue⟩, hon, -⟩ := of_arbiterPick hpick
    have hstopped : s.supply.standby = none := by
      refine Option.not_isSome_iff_eq_none.mp fun e => ?_
      obtain ⟨-, hempty, -⟩ := (standbyCondition_iff_queue s).mp (hm.standby e).1
      rw [hempty u] at hqueue
      cases hqueue
    have hsupply := grantTo_supply hqueue
    refine ⟨fun e => ?_, by rw [hsupply]; exact hm.warmUp, fun e => ?_⟩
    · rw [hsupply, hstopped] at e
      cases e
    · rw [hsupply, hon] at e
      cases e
  | setLine s u l => exact hm.congr rfl rfl rfl rfl
  | post s n => exact hm.congr (by simp) (by simp) (by simp) (moves_post s n).turns.limits
  | settle s => exact hm.settle

/-- While the preset flag is set, some zone is QUEUED, MOVING or UNKNOWN (R51). -/
def PresetWaits (s : State) : Prop := s.preset → ∃ r ∈ s.zones, r.state = .queued ∨ r.state = .moving ∨ r.state = .unknown

theorem presetWaits_settle (s : State) : PresetWaits s.settle := by
  intro h
  rw [settle_zones]
  by_contra hnone
  have hover : presetOver s.zones := fun r hr => by
    by_contra hstate
    refine hnone ⟨r, hr, ?_⟩
    by_contra hn
    exact hstate ⟨fun e => hn (.inl e), fun e => hn (.inr (.inl e)), fun e => hn (.inr (.inr e))⟩
  by_cases hp : s.preset = true
  · have hcleared : s.settle.preset = false := by
      rw [State.settle, presetTest_of_over ⟨by rw [State.standbyRefresh_preset]; exact hp, by
        rw [State.standbyRefresh_zones]; exact hover⟩]
    rw [hcleared] at h
    cases h
  · have hkept : s.settle.preset = s.preset := by
      rw [State.settle, presetTest_of_not_over fun e => hp (by rw [← e.1, State.standbyRefresh_preset]),
          State.standbyRefresh_preset]
    rw [hkept] at h
    exact hp h

/-- After the tests of an event the supply timers' laws hold whole. -/
theorem timersOk_settle {s : State} (h : TimersMid s) : TimersOk s.settle := by
  have hmid := h.settle
  obtain ⟨-, hstandby⟩ := settle_supply_eq s
  refine ⟨⟨hmid.standby, fun ⟨hcond, hset⟩ => ?_⟩, hmid.warmUp, fun e => ?_, presetWaits_settle s⟩
  · rw [standbyCondition_settle] at hcond
    rw [settle_limits] at hset
    rw [hstandby]
    split_ifs with hstart
    · rfl
    · by_contra hnone
      exact hstart ⟨hcond, Option.not_isSome_iff_eq_none.mp hnone, hset⟩
  · exact (queuesEmpty_iff _).mpr ((queues_nil_iff _).mpr (hmid.off e))

/-! ### The fixed fields -/

/-- The changed table keeps a projection that the change of the record keeps. -/
theorem zoneSet_map_eq {α : Type} {s : State} {u z : Nat} {g : ZoneRec → ZoneRec} {f : ZoneRec → α} (h : ∀ q, f (g q) = f q) :
    (zoneSet s u z g).map f = s.zones.map f := by
  rw [zoneSet, List.map_map]
  refine List.map_congr_left fun q _ => ?_
  rw [Function.comp_apply]
  split_ifs
  exacts [h q, rfl]

/-- No change of the Move Scheduler writes a fixed field of a record. -/
theorem Sched.fixed {s t : State} (h : Sched s t) : t.zones.map fixedPart = s.zones.map fixedPart := by
  induction h with
  | refl s => rfl
  | trans _ _ h1 h2 => exact h2.trans h1
  | enter k cause g hr hk hstate hg hlaw =>
    rw [enter_zones hr]
    exact zoneSet_map_eq fun q => hg.1 _
  | change f hr hstate hf hlaw hretry =>
    rw [zoneSet_eq]
    exact zoneSet_map_eq hf.1
  | grant hpick =>
    obtain ⟨-, -, -, ⟨z, rest, hqueue⟩, -⟩ := of_arbiterPick hpick
    rw [grantTo_zones hqueue]
    exact zoneSet_map_eq fun q => rfl
  | setLine s u l => rfl
  | post s n => rw [State.post_zones]
  | settle s => rw [settle_zones]

/-- A change of one record that keeps a law of it keeps the law of the table. -/
theorem forall_zoneSet {s : State} {u z : Nat} {g : ZoneRec → ZoneRec} {P : ZoneRec → Prop} (h : ∀ r ∈ s.zones, P r)
    (hg : ∀ q, P q → P (g q)) : ∀ r ∈ zoneSet s u z g, P r := by
  intro r hr
  obtain ⟨q, hq, rfl⟩ := List.mem_map.mp hr
  split_ifs
  exacts [hg q (h q hq), h q hq]

/-- Every change of the Move Scheduler keeps the echoes in their ranges. -/
theorem Sched.echo {s t : State} (h : Sched s t) (hs : ∀ r ∈ s.zones, EchoOk r) : ∀ r ∈ t.zones, EchoOk r := by
  induction h with
  | refl s => exact hs
  | trans _ _ h1 h2 => exact h2 (h1 hs)
  | enter k cause g hr hk hstate hg hlaw =>
    rw [enter_zones hr]
    exact forall_zoneSet hs fun q h => hg.2 _ h
  | change f hr hstate hf hlaw hretry =>
    rw [zoneSet_eq]
    exact forall_zoneSet hs hf.2
  | grant hpick =>
    obtain ⟨-, -, -, ⟨z, rest, hqueue⟩, -⟩ := of_arbiterPick hpick
    rw [grantTo_zones hqueue]
    exact forall_zoneSet hs fun q h => h
  | setLine s u l => exact hs
  | post s n => rwa [State.post_zones]
  | settle s => rwa [settle_zones]

end Sys2Proof.Claims
end

section
/-! PROOF. What the requests of the table can do: one form for each kind of effect, and the form of each request (R177). -/

namespace Sys2Proof.Claims

open Sys2Proof.Machine Sys2Proof.Safety

/-! ### The forms -/

/-- A change of records that writes the loop hold flags alone. -/
def LoopHoldOnly (g : ZoneRec → ZoneRec) : Prop := ∀ r, g r = { r with loopHold := (g r).loopHold }

/-- The two trims lie in their ranges (R6, R76, R100). -/
def TrimsInRange (r : ZoneRec) : Prop :=
  -100 ≤ r.consoleTrim ∧ r.consoleTrim ≤ 100 ∧ -60 ≤ r.loopTrim ∧ r.loopTrim ≤ 60

/-- The state after END JOB's records are written and before its batch (R48). -/
def endedJob (s : State) : State :=
  { s with job := none, device := .configured, preset := false, zones := s.zones.map endedRecord }

/-- The state with the active job's sweep of unit u replaced, before any recomputation (R49). -/
def sweptJob (s : State) (j : ActiveJob) (u sweep : Nat) : State := { s with job := some (j.setSweep u sweep) }

/-- Only the Console Port may make the request (R177). -/
def OfConsole (q : Req) : Prop := reqAllowed q .job = false ∧ reqAllowed q .loop = false

/-- Only the Job Port may make the request (R177). -/
def OfJob (q : Req) : Prop := reqAllowed q .console = false ∧ reqAllowed q .loop = false

/-- A change of trims by the Loop Port: loop trims alone, in the units the active job uses (R93, R101). -/
def LoopTrims (s : State) (g : ZoneRec → ZoneRec) : Prop :=
  ∀ r, (g r).consoleTrim = r.consoleTrim ∧ (g r ≠ r → (s.usedUnit r.unit).isSome = true)

/-- The effect of an executed request on the state but for its port. -/
inductive BodyEffect (q : Req) (s : State) : State → Prop
  | same : BodyEffect q s s
  | ports (ps : Ports) (hcmd : ∀ p, (({ s with ports := ps } : State).port p).cmd = (s.port p).cmd) :
      BodyEffect q s { s with ports := ps }
  | hold (b : Bool) (hq : OfConsole q := by exact ⟨rfl, rfl⟩) : BodyEffect q s { s with hold := b }
  | slot (sl : Slot) (ps : Ports) (hslot : SlotOk s → SlotOk { s with slot := sl })
      (hfits : SlotFits s → SlotFits { s with slot := sl })
      (hq : OfJob q := by exact ⟨rfl, rfl⟩)
      (hcmd : ∀ p, (({ s with ports := ps } : State).port p).cmd = (s.port p).cmd := by exact fun _ => rfl) :
          BodyEffect q s { s with slot := sl, ports := ps }
  | discard (hq : q = .discardStage) : BodyEffect q s { s with slot := .empty }
  | curve (k : Nat) (c : Option Curve) (hok : ∀ x ∈ c, CurveOk x) (hfree : s.activeUses k = 0)
      (hq : q = .defineCurve ∨ q = .deleteCurve) : BodyEffect q s (s.setCurve k c)
  | limits (l : Limits) (hok : limitsCheck l = none) (hq : OfConsole q := by exact ⟨rfl, rfl⟩) :
      BodyEffect q s { s with limits := l, supply := { s.supply with standby := s.standbyAtLimits l.standbyS } }
  | loop (l : LoopParams) (hok : loopParamsCheck l = none) (hq : OfConsole q := by exact ⟨rfl, rfl⟩) :
      BodyEffect q s { s with loop := l }
  | retry (h : s.supply.state = .failed) (hq : OfConsole q := by exact ⟨rfl, rfl⟩) : BodyEffect q s s.retrySupply
  | configure (nz : List Nat) (hdevice : s.device = .unconfigured) (hlen : 1 ≤ nz.length ∧ nz.length ≤ 8)
      (hnz : ∀ k ∈ nz, 12 ≤ k ∧ k ≤ 36) (hq : OfConsole q := by exact ⟨rfl, rfl⟩) : BodyEffect q s (s.configured nz)
  | loopHold (g : ZoneRec → ZoneRec) (hg : LoopHoldOnly g) (hq : OfConsole q := by exact ⟨rfl, rfl⟩) :
      BodyEffect q s { s with zones := s.zones.map g }
  | addDisable {u z : Nat} {r : ZoneRec} (hr : s.zone? u z = some r)
      (hs : r.state = .moving ∨ r.state = .unknown ∧ r.halts.any = true)
      (hq : OfConsole q := by exact ⟨rfl, rfl⟩) : BodyEffect q s (s.addDisable u z)
  | service (x : State) (hsched : Sched s x) (hmoves : Moves s x) (hq : OfConsole q := by exact ⟨rfl, rfl⟩) :
      BodyEffect q s x.settle
  | cal (u z : Nat) (e : CalEntry) (he : CalOk e) (hq : q = .setKeyCal) : BodyEffect q s (s.setCalEntry u z e)
  | calService (u z : Nat) (e : CalEntry) (he : CalOk e) (x : State) (hsched : Sched (s.setCalEntry u z e) x)
      (hmoves : Moves (s.setCalEntry u z e) x) (hq : q = .setKeyCal) : BodyEffect q s x.settle
  | trims (g : ZoneRec → ZoneRec) (hg : TrimsOnly g) (hrange : ∀ r ∈ s.zones, TrimsInRange r → TrimsInRange (g r))
      (hq : OfConsole q ∨ q = .applyDeviations ∧ LoopTrims s g) :
      BodyEffect q s (s.writeZoneTrims (s.zones.map g)).1
  | endJob (j : ActiveJob) (hj : s.job = some j) (hq : OfConsole q := by exact ⟨rfl, rfl⟩) : BodyEffect q s
      ((endedJob s).handBatch (endedJob s).zoneIds)
  | sweep (u sweep : Nat) (j : ActiveJob) (p : UnitParams) (hj : s.job = some j) (hp : j.record? u = some p)
      (hsweep : 10 ≤ sweep ∧ sweep ≤ 100) (hq : OfConsole q := by exact ⟨rfl, rfl⟩) :
      BodyEffect q s
        (((sweptJob s j u sweep).recompute (fun r => r.unit == u)).1.handBatch
          ((sweptJob s j u sweep).recompute (fun r => r.unit == u)).2)
  | take (c : Stage) (hslot : s.slot = .complete c) (hdefined : undefinedUses s c = []) (hdevice : s.device ≠ .unconfigured)
      (hq : q = .takeJob) :
      BodyEffect q s (((s.take c).1.post .jobTaken).handBatch (s.take c).2)

/-! ### The ports' own requests -/

theorem modPort_eq (s : State) (p : Port) (f : PortCtl → PortCtl) : s.modPort p f = { s with ports :=
    (s.modPort p f).ports } := by
  rfl

theorem effect_modPort {q : Req} (s : State) (p : Port) {f : PortCtl → PortCtl} (hf : ∀ c, (f c).cmd = c.cmd) :
    BodyEffect q s (s.modPort p f) := by
  refine modPort_eq s p f ▸ .ports (s.modPort p f).ports fun q => ?_
  change ((s.modPort p f).port q).cmd = _
  rw [State.port_modPort]
  split_ifs with h
  · rw [h, hf]
  · rfl

section
variable (p : Port) (ws : List Word) (s : State)

theorem setMaskBody_effect : BodyEffect .setMask s (setMaskBody p ws s).1 := by
  unfold setMaskBody
  cases kindsOperand ws 0 with
  | none => exact .same
  | some m => exact effect_modPort s p (f := fun c => { c with mask := m }) fun _ => rfl

theorem ackNoticesBody_effect : BodyEffect .ackNotices s (ackNoticesBody p ws s).1 := by
  unfold ackNoticesBody
  cases kindsOperand ws 0 with
  | none => exact .same
  | some w =>
    dsimp only
    split_ifs
    · exact .same
    · exact effect_modPort s p (f := fun c => { c with notices := c.notices &&& ~~~w }) fun _ => rfl

theorem setTestPostingBody_effect : BodyEffect .setTestPosting s (setTestPostingBody ws s).1 := by
  unfold setTestPostingBody
  cases portOfCode (operand ws 0) with
  | none => exact .same
  | some p =>
    dsimp only
    split_ifs
    · exact .same
    · exact effect_modPort s p (f := fun c => { c with test := operand ws 1 == 1 }) fun _ => rfl

theorem testNoticeBody_effect : BodyEffect .testNotice s (testNoticeBody ws s).1 := by
  unfold testNoticeBody
  cases portOfCode (operand ws 0) with
  | none => exact .same
  | some p =>
    cases kindsOperand ws 1 with
    | none => exact .same
    | some w =>
      dsimp only
      split_ifs
      · exact .same
      · exact effect_modPort s p (f := fun c => { c with notices := c.notices ||| w }) fun _ => rfl

end

/-! ### Parameters and supply -/

section
variable (ws : List Word) (s : State)

theorem setLimitsBody_effect : BodyEffect .setLimits s (setLimitsBody ws s).1 := by
  unfold setLimitsBody
  dsimp only
  split
  · exact .same
  · next h => exact .limits _ h

theorem setLoopParametersBody_effect : BodyEffect .setLoopParameters s (setLoopParametersBody ws s).1 := by
  unfold setLoopParametersBody
  dsimp only
  split
  · exact .same
  · next h => exact .loop _ h

theorem supplyRetryBody_effect : BodyEffect .supplyRetry s (supplyRetryBody ws s).1 := by
  unfold supplyRetryBody
  split
  · next h => exact .retry h
  all_goals exact .same

/-! ### Curves -/

theorem firstBad_none_forall {α : Type} {bad : α → Bool} {l : List α} (h : firstBad bad l = none) : ∀ a ∈ l, bad a = false := by
  induction l with
  | nil => nofun
  | cons x l ih =>
    rw [firstBad] at h
    split_ifs at h with hx
    rw [Option.map_eq_none_iff] at h
    intro a ha
    rcases List.mem_cons.mp ha with rfl | ha
    · exact Bool.eq_false_iff.mpr hx
    · exact ih h a ha

/-- Neighbours in order put the whole list in order. -/
theorem pairwise_of_pairs {R : Breakpoint → Breakpoint → Prop} (htrans : ∀ a b c, R a b → R b c → R a c) {l : List Breakpoint}
    (h : ∀ q ∈ pairsOf l, R q.1 q.2) : l.Pairwise R := by
  have htr : IsTrans Breakpoint R := ⟨htrans⟩
  rw [← List.isChain_iff_pairwise]
  induction l with
  | nil => exact .nil
  | cons a l ih =>
    cases l with
    | nil => exact .singleton a
    | cons b l =>
      refine .cons_cons (h (a, b) List.mem_cons_self) (ih fun q hq => h q (List.mem_cons_of_mem _ hq))

/-- A list that passes checks 4 to 8 is well-formed (R22). -/
theorem pointsCheck_eq_none {pts : List Breakpoint} (h : pointsCheck pts = none) :
    pts.head?.map Breakpoint.x = some 0 ∧ pts.getLast?.map Breakpoint.x = some 1000 ∧
      pts.Pairwise (fun a b => a.x < b.x ∧ a.y ≤ b.y) ∧ ∀ q ∈ pts, q.y ≤ 500 := by
  unfold pointsCheck at h
  split_ifs at h with h4 h5
  cases h6 : firstBad (fun q : Breakpoint × Breakpoint => decide (q.2.x ≤ q.1.x)) (pairsOf pts) with
  | some i => rw [h6] at h; cases h
  | none =>
    cases h7 : firstBad (fun q : Breakpoint => decide (500 < q.y)) pts with
    | some i => rw [h6] at h; simp only [h7] at h; cases h
    | none =>
      cases h8 : firstBad (fun q : Breakpoint × Breakpoint => decide (q.2.y < q.1.y)) (pairsOf pts) with
      | some i => rw [h6] at h; simp only [h7, h8] at h; cases h
      | none =>
        refine ⟨not_not.mp h4, not_not.mp h5, ?_, fun q hq => ?_⟩
        · refine pairwise_of_pairs (fun a b c h1 h2 => ⟨h1.1.trans h2.1, h1.2.trans h2.2⟩) fun q hq => ?_
          exact ⟨not_le.mp (of_decide_eq_false (firstBad_none_forall h6 q hq)),
            not_lt.mp (of_decide_eq_false (firstBad_none_forall h8 q hq))⟩
        · exact not_lt.mp (of_decide_eq_false (firstBad_none_forall h7 q hq))

theorem pointsOf_length (n : Nat) : ∀ l : List Word, l.length = 2 * n → (pointsOf l).length = n := by
  induction n with
  | zero =>
    intro l hl
    rw [List.length_eq_zero_iff.mp hl]
    rfl
  | succ n ih =>
    intro l hl
    match l, hl with
    | x :: y :: rest, hl =>
      simp only [List.length_cons] at hl
      rw [pointsOf, List.length_cons, ih rest (by omega)]

/-- The count operand of a frame whose length matches (R177). -/
theorem operands_length {place base per : Nat} {ws : List Word} (h : countedOperands place base per ws = some ws.length) :
    ws.length = base + per * operand ws place := by
  unfold countedOperands at h
  cases hw : ws[place]? with
  | none => rw [hw] at h; cases h
  | some w =>
    rw [hw, Option.map_some, Option.some.injEq] at h
    rw [operand, List.getD_eq_getElem?_getD, hw, Option.getD_some]
    exact h.symm

theorem defineCurveBody_effect (hlen : countedOperands 2 3 2 ws = some ws.length) : BodyEffect .defineCurve s
    (defineCurveBody ws s).1 := by
  have hcount := operands_length hlen
  unfold defineCurveBody
  dsimp only
  split
  · exact .same
  · next h =>
    split_ifs with huse
    · exact .same
    · refine .curve _ _ (fun c hc => ?_) (not_not.mp huse) (.inl rfl)
      obtain rfl := Option.some.inj hc
      unfold curveCheck at h
      split_ifs at h with h1 h2 h3
      obtain ⟨hfirst, hlast, hpairs, hy⟩ := pointsCheck_eq_none h
      have hpts := pointsOf_length (operand ws 2) (ws.drop 3) (by rw [List.length_drop]; omega)
      exact ⟨not_lt.mp fun e => h2 (.inl e), not_lt.mp fun e => h2 (.inr e), by rw [hpts]; omega, by rw [hpts]; omega,
          hfirst, hlast, hpairs, hy⟩

theorem deleteCurveBody_effect : BodyEffect .deleteCurve s (deleteCurveBody ws s).1 := by
  unfold deleteCurveBody
  dsimp only
  split_ifs with h1 huse
  · exact .same
  · exact .same
  · exact .curve _ _ nofun (not_not.mp huse) (.inr rfl)

/-! ### CONFIGURE -/

theorem configureBody_effect (hlen : countedOperands 0 1 1 ws = some ws.length) : BodyEffect .configure s
    (configureBody ws s).1 := by
  have hcount := operands_length hlen
  unfold configureBody
  dsimp only
  split_ifs with hdevice hn hnz
  · exact .same
  · exact .same
  · exact .same
  · have hunits : 1 ≤ operand ws 0 ∧ operand ws 0 ≤ 8 := by
      have h8 : Config.maxUnits = 8 := rfl
      omega
    have hlength : ((ws.drop 1).map BitVec.toNat).length = operand ws 0 := by
      rw [List.length_map, List.length_drop]
      omega
    refine .configure _ (not_not.mp hdevice) (by rw [hlength]; exact hunits) fun k hk => ?_
    have hrange : ¬ (k < 12 ∨ 36 < k) := by
      intro hbad
      refine hnz (List.any_eq_true.mpr ⟨k, hk, ?_⟩)
      rw [Bool.or_eq_true, decide_eq_true_eq, decide_eq_true_eq]
      exact hbad
    omega

end

/-! ### The staged slot -/

/-- The laws of the slot speak of the slot alone, its place in the configuration of Nz(u) too. -/
theorem slotOk_of_none {s : State} {sl : Slot} (h : sl.content = none) : SlotOk { s with slot := sl } := by
  refine ⟨fun c hc => ?_, fun c hc => ?_⟩
  · rw [h] at hc
    cases hc
  · cases sl with
    | empty => cases hc
    | _ => cases h

theorem slotFits_of_none {s : State} {sl : Slot} (h : sl.content = none) : SlotFits { s with slot := sl } := by
  intro c hc
  rw [h] at hc
  cases hc

section
variable {s : State} {c : Stage}

/-- An open slot's laws are those of its content. -/
theorem slotOk_opened (h : StageOk c) : SlotOk { s with slot := .opened c } :=
  ⟨fun _ hc => Option.some.inj hc ▸ h, nofun⟩

theorem slotOk_failed (h : StageOk c) (cause : StageCause) : SlotOk { s with slot := .failed c cause } :=
  ⟨fun _ hc => Option.some.inj hc ▸ h, nofun⟩

theorem slotOk_complete (h : StageOk c) (hlen : c.stream.length = c.expected) (hall : AllRecorded c.units c.records) :
    SlotOk { s with slot := .complete c } :=
  ⟨fun _ hc => Option.some.inj hc ▸ h, fun _ hc => Option.some.inj hc ▸ ⟨hlen, hall⟩⟩

/-- The content lies within the configuration (R33). -/
def StageFits (s : State) (c : Stage) : Prop :=
  UnitListOk s c.units ∧ c.expected = (c.units.map s.zonesOf).sum ∧ WidthsOk s c.records

theorem slotFits_of_content {sl : Slot} (hcontent : sl.content = some c) (h : StageFits s c) : SlotFits { s with slot :=
    sl } := by
  intro d hd
  rw [hcontent] at hd
  obtain rfl := Option.some.inj hd
  exact h

/-- A slot opened afresh (R36). -/
theorem openedStage_ok {units : List Nat} (jobNo : Nat) (h : units.Nodup) : StageOk (openedStage s jobNo units) :=
  ⟨Nat.zero_le _, nofun, le_rfl, h, List.nodup_nil, nofun⟩

/-- A unit's record written keeps one record for each listed unit (R37). -/
theorem putRecord_ok {units : List Nat} {l : List UnitParams} {p : UnitParams} (h : UnitRecordsOk units l) (hp : p.unit ∈ units)
    (hok : UnitParamsOk p) : UnitRecordsOk units (putRecord l p) := by
  obtain ⟨hunits, hnodup, hall⟩ := h
  by_cases hmem : ∃ q ∈ l, q.unit = p.unit
  · obtain ⟨-, hput⟩ := putRecord_of_mem hmem
    rw [hput]
    refine ⟨hunits, ?_, fun q hq => ?_⟩
    · have hsame : (l.map fun q => if q.unit = p.unit then p else q).map UnitParams.unit = l.map UnitParams.unit := by
        rw [List.map_map]
        refine List.map_congr_left fun q _ => ?_
        rw [Function.comp_apply]
        split_ifs with hu
        exacts [hu.symm, rfl]
      rw [hsame]
      exact hnodup
    · obtain ⟨x, hx, rfl⟩ := List.mem_map.mp hq
      split_ifs
      exacts [⟨hp, hok⟩, hall x hx]
  · have hnone : ∀ q ∈ l, q.unit ≠ p.unit := fun q hq e => hmem ⟨q, hq, e⟩
    obtain ⟨-, hput⟩ := putRecord_of_not_mem hnone
    rw [hput]
    refine ⟨hunits, ?_, fun q hq => ?_⟩
    · rw [List.map_append, List.nodup_append]
      refine ⟨hnodup, List.nodup_singleton _, ?_⟩
      rintro a ha b hb rfl
      obtain ⟨q, hq, rfl⟩ := List.mem_map.mp ha
      exact hnone q hq (List.mem_singleton.mp hb)
    · rcases List.mem_append.mp hq with hq | hq
      · exact hall q hq
      · obtain rfl := List.mem_singleton.mp hq
        exact ⟨hp, hok⟩

theorem mem_putRecord {l : List UnitParams} {p q : UnitParams} (h : q ∈ putRecord l p) : q = p ∨ q ∈ l := by
  unfold putRecord at h
  split_ifs at h
  · obtain ⟨x, hx, rfl⟩ := List.mem_map.mp h
    split_ifs
    exacts [.inl rfl, .inr hx]
  · rcases List.mem_append.mp h with h | h
    exacts [.inr h, .inl (List.mem_singleton.mp h)]

/-- Values stored in a stream with room for them (R39). -/
theorem append_ok (h : StageOk c) {vs : List Nat} (hroom : c.stream.length + vs.length ≤ c.expected) : StageOk (c.append vs) := by
  obtain ⟨-, hvalues, hclamped, hrecords⟩ := h
  refine ⟨by rw [append_stream_length]; exact hroom, fun v hv => ?_, ?_, hrecords⟩
  · rcases List.mem_append.mp hv with hv | hv
    · exact hvalues v hv
    · obtain ⟨x, -, rfl⟩ := List.mem_map.mp hv
      exact Nat.min_le_right _ _
  · rw [append_stream_length]
    exact Nat.add_le_add hclamped List.countP_le_length

theorem content_of_opened (h : s.slot = .opened c) : c ∈ s.slot.content := by
  rw [h]
  rfl

end

section
variable (ws : List Word) (s : State)

theorem beginStageBody_effect (hlen : countedOperands 1 2 1 ws = some ws.length) : BodyEffect .beginStage s
    (beginStageBody ws s).1 := by
  have hcount := operands_length hlen
  by_cases hopen : isOpen s
  · obtain ⟨c, hc⟩ := hopen
    rw [beginStageBody_of_open hc]
    exact .same
  · rw [beginStageBody_of_not_open hopen]
    split
    · exact .same
    · next h =>
      unfold beginStageCheck at h
      split_ifs at h with h2 h3 h4 h5
      have hnodup : ((ws.drop 2).map BitVec.toNat).Nodup := by simpa using h5
      have hlength : ((ws.drop 2).map BitVec.toNat).length = operand ws 1 := by
        rw [List.length_map, List.length_drop]
        omega
      refine .slot (.opened _) s.ports (fun _ => slotOk_opened (openedStage_ok _ hnodup)) fun _ =>
        slotFits_of_content rfl ⟨⟨?_, ?_, hnodup, fun u hu => ?_⟩, rfl, nofun⟩
      · change 1 ≤ ((ws.drop 2).map BitVec.toNat).length
        omega
      · change ((ws.drop 2).map BitVec.toNat).length ≤ 8
        omega
      · have hconf : s.unitConfigured u = true := by
          by_contra hno
          exact h4 (List.any_eq_true.mpr ⟨u, hu, by rw [Bool.eq_false_iff.mpr hno]; rfl⟩)
        rw [unitConfigured_eq, decide_eq_true_eq] at hconf
        exact hconf

theorem stageUnitBody_effect : BodyEffect .stageUnit s (stageUnitBody ws s).1 := by
  by_cases hopen : isOpen s
  · obtain ⟨c, hc⟩ := hopen
    rw [stageUnitBody_of_open hc]
    split
    · exact .same
    · next h =>
      unfold stageUnitCheck at h
      split_ifs at h with h1 h2 h3 h4 h5 h6 h7
      have hlisted : (unitParamsOf ws).unit ∈ c.units := not_not.mp (mt listed_iff.mpr h1)
      refine .slot (.opened _) s.ports (fun hok => slotOk_opened ?_) fun hfits => slotFits_of_content rfl ?_
      · obtain ⟨hlen, hvalues, hclamped, hrecords⟩ := hok.1 c (content_of_opened hc)
        exact ⟨hlen, hvalues, hclamped, putRecord_ok hrecords hlisted
          ⟨by omega, by omega, by omega, by omega, by omega, by omega, by omega⟩⟩
      · obtain ⟨hunits, hexpected, hwidths⟩ := hfits c (content_of_opened hc)
        refine ⟨hunits, hexpected, fun q hq => ?_⟩
        rcases mem_putRecord hq with rfl | hq
        · omega
        · exact hwidths q hq
  · rw [stageUnitBody_of_not_open hopen]
    exact .same

theorem post_eq (k : Notice) : s.post k = { s with ports := (s.post k).ports } := by
  cases k <;> rfl

theorem post_cmd (s : State) (k : Notice) (p : Port) : ((s.post k).port p).cmd = (s.port p).cmd := by
  rw [s.post_port_frame k p]

theorem stageDataBody_effect (hlen : countedOperands 0 1 1 ws = some ws.length) : BodyEffect .stageData s
    (stageDataBody ws s).1 := by
  have hcount := operands_length hlen
  by_cases hopen : isOpen s
  · obtain ⟨c, hc⟩ := hopen
    obtain ⟨n, vs, rfl⟩ : ∃ n vs, ws = n :: vs := List.exists_cons_of_length_pos (by omega)
    have hn : vs.length = n.toNat := by
      have hop : operand (n :: vs) 0 = n.toNat := rfl
      rw [hop, List.length_cons] at hcount
      omega
    rw [stageDataBody_of_open hc]
    split_ifs with h1 h2
    · exact .same
    · refine .slot (.opened _) s.ports (fun hok => slotOk_opened ?_) fun hfits => slotFits_of_content rfl ?_
      · have hstage := hok.1 c (content_of_opened hc)
        have hroom := hstage.1
        exact append_ok hstage (by rw [List.length_map, hn]; omega)
      · exact hfits c (content_of_opened hc)
    · change BodyEffect .stageData s (({ s with slot := _ } : State).post .stageFailed)
      rw [post_eq]
      refine .slot (.failed _ .oversize) _ (fun hok => slotOk_failed ?_ _) (fun hfits => slotFits_of_content rfl ?_)
        (hcmd := fun p => post_cmd _ _ p)
      · have hstage := hok.1 c (content_of_opened hc)
        have hroom := hstage.1
        refine append_ok hstage ?_
        rw [List.length_map, List.length_take]
        omega
      · exact hfits c (content_of_opened hc)
  · rw [stageDataBody_of_not_open hopen]
    exact .same

/-- The slot after END STAGE holds what it held (R41). -/
theorem closed_content (c : Stage) : c.closed.content = some c := by
  unfold Stage.closed
  split_ifs <;> rfl

theorem slotOk_closed {c : Stage} (h : StageOk c) : SlotOk { s with slot := c.closed } := by
  have hlen := h.1
  by_cases hshort : c.stream.length < c.expected
  · rw [closed_of_short hshort]
    exact slotOk_failed h _
  · by_cases hmissing : c.missing = 0
    · rw [closed_of_complete (not_lt.mp hshort) hmissing]
      refine slotOk_complete h (by omega) fun u hu => ?_
      rw [Stage.missing, List.countP_eq_zero] at hmissing
      have hany := hmissing u hu
      rw [Bool.not_eq_true', Bool.eq_false_iff, not_not, List.any_eq_true] at hany
      obtain ⟨p, hp, hpu⟩ := hany
      exact ⟨p, hp, beq_iff_eq.mp hpu⟩
    · rw [closed_of_incomplete (not_lt.mp hshort) hmissing]
      exact slotOk_failed h _

theorem endStageBody_effect : BodyEffect .endStage s (endStageBody ws s).1 := by
  by_cases hopen : isOpen s
  · obtain ⟨c, hc⟩ := hopen
    rw [endStageBody_of_open hc]
    change BodyEffect .endStage s (({ s with slot := c.closed } : State).post (closeNotice c.closed))
    rw [post_eq]
    exact .slot c.closed _ (fun hok => slotOk_closed s (hok.1 c (content_of_opened hc)))
      (fun hfits => slotFits_of_content (closed_content c) (hfits c (content_of_opened hc)))
      (hcmd := fun p => post_cmd _ _ p)
  · rw [endStageBody_of_not_open hopen]
    exact .same

/-! ### Jobs and trims -/

theorem takeJobBody_effect (hdevice : s.device ≠ .unconfigured) : BodyEffect .takeJob s (takeJobBody ws s).1 := by
  cases hc : completed s.slot with
  | none =>
    rw [takeJobBody_of_not_complete hc]
    exact .same
  | some c =>
    have hslot : s.slot = .complete c := by
      cases hs : s.slot with
      | complete d => rw [hs] at hc; rw [Option.some.inj hc]
      | _ => rw [hs] at hc; cases hc
    rw [takeJobBody_of_complete hslot]
    split_ifs with hdefined
    · exact .take c hslot (List.isEmpty_iff.mp hdefined) hdevice rfl
    · exact .same

theorem endJobBody_effect : BodyEffect .endJob s (endJobBody ws s).1 := by
  cases hj : s.job with
  | none =>
    rw [endJobBody, hj]
    exact .same
  | some j =>
    rw [endJobBody_of_job hj]
    exact .endJob j hj

theorem setSweepBody_effect : BodyEffect .setSweep s (setSweepBody ws s).1 := by
  unfold setSweepBody
  dsimp only
  split_ifs with h1 h2
  · exact .same
  · exact .same
  · obtain hj | ⟨j, hj⟩ := Option.eq_none_or_eq_some s.job
    · simp only [hj]
      exact .same
    · obtain hp | ⟨p, hp⟩ := Option.eq_none_or_eq_some (j.record? (operand ws 0))
      · simp only [hj, hp]
        exact .same
      · simp only [hj, hp]
        exact .sweep (operand ws 0) (operand ws 1) j p hj hp (by omega)

/-- The records of a run with its values written, as a change of each record (R76, R77). -/
def trimWritten (u f n : Nat) (wanted : Nat → ZoneRec → Int) (r : ZoneRec) : ZoneRec :=
  match runPlace u f n r with
  | some i => { r with consoleTrim := clampTrim (wanted i r) }
  | none => r

theorem trimWritten_trimsOnly (u f n : Nat) (wanted : Nat → ZoneRec → Int) : TrimsOnly (trimWritten u f n wanted) := by
  intro r
  unfold trimWritten
  cases runPlace u f n r <;> rfl

theorem trimWritten_range {u f n : Nat} {wanted : Nat → ZoneRec → Int} {r : ZoneRec} (h : TrimsInRange r) :
    TrimsInRange (trimWritten u f n wanted r) := by
  obtain ⟨-, -, hloop⟩ := id h
  unfold trimWritten
  cases runPlace u f n r with
  | none => exact h
  | some i =>
    obtain ⟨hlo, hhi⟩ := clampInt_between (lo := -100) (hi := 100) (wanted i r) (by omega)
    exact ⟨hlo, hhi, hloop⟩

theorem consoleTrimBody_effect {q : Req} (hq : OfConsole q) (wanted : List Word → Nat → ZoneRec → Int) :
    BodyEffect q s (consoleTrimBody wanted ws s).1 := by
  unfold consoleTrimBody
  dsimp only
  split_ifs
  · exact .same
  · exact .same
  · exact .trims (trimWritten (operand ws 0) (operand ws 1) (operand ws 2) (wanted ws)) (trimWritten_trimsOnly _ _ _ _)
      (fun _ _ h => trimWritten_range h) (.inl hq)

theorem clearedTrims_trimsOnly (which : Nat) : TrimsOnly (clearedTrims which) := by
  intro r
  rfl

theorem clearedTrims_range {which : Nat} {r : ZoneRec} (h : TrimsInRange r) : TrimsInRange (clearedTrims which r) := by
  obtain ⟨h1, h2, h3, h4⟩ := h
  unfold TrimsInRange clearedTrims
  dsimp only
  refine ⟨?_, ?_, ?_, ?_⟩ <;> split_ifs <;> omega

theorem clearTrimsBody_effect : BodyEffect .clearTrims s (clearTrimsBody ws s).1 := by
  unfold clearTrimsBody
  dsimp only
  split_ifs
  · exact .same
  · exact .same
  · refine .trims (fun r => if operand ws 0 = 0 ∨ r.unit = operand ws 0 then clearedTrims (operand ws 1) r else r) (fun r => ?_)
      (fun r _ h => ?_) (.inl ⟨rfl, rfl⟩)
    · dsimp only
      split_ifs
      exacts [clearedTrims_trimsOnly _ r, rfl]
    · split_ifs
      exacts [clearedTrims_range h, h]

theorem setLoopHoldBody_effect : BodyEffect .setLoopHold s (setLoopHoldBody ws s).1 := by
  unfold setLoopHoldBody
  dsimp only
  split_ifs
  · exact .same
  · exact .same
  · split
    · exact .same
    · refine .loopHold (fun r =>
        match runPlace (operand ws 0) (operand ws 1) (operand ws 2) r with
        | some i => { r with loopHold := operand ws (3 + i) == 1 }
        | none => r) fun r => ?_
      dsimp only
      cases runPlace (operand ws 0) (operand ws 1) (operand ws 2) r <;> rfl

/-- The loop trim written to each zone of a record, as a change of each record (R101). -/
def loopTrimWritten (s : State) (p : UnitParams) (ws : List Word) (r : ZoneRec) : ZoneRec :=
  match judgeRecord s p ws r with
  | some q => { r with loopTrim := q.2 }
  | none => r

theorem loopTrimWritten_trimsOnly (p : UnitParams) : TrimsOnly (loopTrimWritten s p ws) := by
  intro r
  unfold loopTrimWritten
  cases judgeRecord s p ws r <;> rfl

theorem loopTrimWritten_range {p : UnitParams} {r : ZoneRec} (h : TrimsInRange r) : TrimsInRange (loopTrimWritten s p ws r) := by
  obtain ⟨h1, h2, h3⟩ := id h
  unfold loopTrimWritten judgeRecord
  cases runPlace (operand ws 0) (operand ws 3) (operand ws 4) r with
  | none => exact h
  | some i => exact ⟨h1, h2, judgeZone_trim h3⟩

theorem unit_of_runPlace {u f n i : Nat} {r : ZoneRec} (h : runPlace u f n r = some i) : r.unit = u := by
  unfold runPlace at h
  split_ifs at h with hrun
  exact hrun.1

/-- The trims a deviation record writes are loop trims of its unit, which the active job uses (R93, R101). -/
theorem loopTrims_loopTrimWritten {p : UnitParams} (hp : s.usedUnit (operand ws 0) = some p) :
    LoopTrims s (loopTrimWritten s p ws) := by
  intro r
  unfold loopTrimWritten judgeRecord
  cases hplace : runPlace (operand ws 0) (operand ws 3) (operand ws 4) r with
  | none => exact ⟨rfl, fun h => absurd rfl h⟩
  | some i =>
    have hunit := unit_of_runPlace hplace
    exact ⟨rfl, fun _ => by rw [hunit, hp]; rfl⟩

theorem applyDeviationsBody_effect : BodyEffect .applyDeviations s (applyDeviationsBody ws s).1 := by
  obtain ha | ⟨a, ha⟩ := Option.eq_none_or_eq_some (recordRefusal s ws)
  · obtain hp | ⟨p, hp⟩ := Option.eq_none_or_eq_some (s.usedUnit (operand ws 0))
    · rw [applyDeviationsBody, ha, hp]
      exact .same
    · rw [applyDeviationsBody, ha, hp]
      exact .trims (loopTrimWritten s p ws) (loopTrimWritten_trimsOnly ws s p) (fun _ _ h => loopTrimWritten_range ws s h)
        (.inr ⟨rfl, loopTrims_loopTrimWritten ws s hp⟩)
  · rw [applyDeviationsBody_refused ha]
    exact .same

/-! ### Zone service and calibration -/

/-- A request that names one zone does what its meaning does with the zone's record. -/
theorem zoneRequest_effect {q : Req} {body : Nat → Nat → ZoneRec → State → State × Answer}
    (h : ∀ u z r, s.zone? u z = some r → BodyEffect q s (body u z r s).1) : BodyEffect q s (zoneRequest body ws s).1 := by
  unfold zoneRequest
  dsimp only
  split_ifs
  · exact .same
  · cases hr : s.zone? (operand ws 0) (operand ws 1) with
    | none => exact .same
    | some r => exact h _ _ r hr

end

section
variable {s : State} {u z : Nat} {r : ZoneRec} (hr : s.zone? u z = some r)
include hr

theorem disableZoneBody_effect : BodyEffect .disableZone s (disableZoneBody u z r s).1 := by
  change BodyEffect .disableZone s (s.disableZone u z r)
  obtain h | ⟨h, hs⟩ | ⟨x, hx, hm, h⟩ := sched_disableZone hr
  · rw [h]
    exact .same
  · rw [h]
    exact .addDisable hr hs
  · rw [h]
    exact .service x hx hm

theorem makeUnknown_effect {q : Req} (hq : OfConsole q) : BodyEffect q s (s.makeUnknown u z id).settle :=
  .service _ (sched_makeUnknown hr ⟨fun _ => rfl, fun _ h => h⟩ (fun _ => rfl) fun _ h => h)
    (moves_enter _ _ _ _ _ _ fun _ => ⟨rfl, rfl⟩) hq

theorem enableZoneBody_effect : BodyEffect .enableZone s (enableZoneBody u z r s).1 := by
  by_cases hs : r.state = .disabled
  · unfold enableZoneBody
    rw [hs]
    exact makeUnknown_effect hr ⟨rfl, rfl⟩
  · rw [enableZoneBody_refused hs]
    exact .same

theorem releaseZoneBody_effect : BodyEffect .releaseZone s (releaseZoneBody u z r s).1 := by
  unfold releaseZoneBody
  cases hs : r.state with
  | blocked => exact makeUnknown_effect hr ⟨rfl, rfl⟩
  | faulted => exact makeUnknown_effect hr ⟨rfl, rfl⟩
  | missed =>
    exact .service _ (sched_evaluate hr (by rw [hs]; decide) (measured_isSome_of_state (by rw [hs]; decide)))
      (moves_evaluate s u z)
  | _ => exact .same

end

/-- A record's retry count set to 0 keeps its laws. -/
theorem recordLaws_no_retries {q : ZoneRec} (h : RecordLaws q) : RecordLaws { q with retries := 0 } := by
  obtain ⟨hf, hc, ⟨h1, h2, h3, h4, h5, -⟩, hs⟩ := h
  exact ⟨hf, hc, ⟨h1, h2, h3, h4, h5, Nat.zero_le 2⟩, hs⟩

theorem setKeyCalBody_effect (ws : List Word) (s : State) : BodyEffect .setKeyCal s (setKeyCalBody ws s).1 := by
  unfold setKeyCalBody
  dsimp only
  split_ifs with h1 h2 h3 h4 h5 h6
  · exact .same
  · exact .same
  · exact .same
  · exact .same
  · exact .same
  · exact .same
  · have he : CalOk ⟨operand ws 2, operand ws 3⟩ :=
      ⟨not_lt.mp fun e => h2 (.inl e), not_lt.mp fun e => h2 (.inr e), not_lt.mp fun e => h3 (.inl e),
        not_lt.mp fun e => h3 (.inr e), not_lt.mp h4⟩
    change BodyEffect .setKeyCal s ((s.setCalEntry (operand ws 0) (operand ws 1) ⟨operand ws 2, operand ws 3⟩).calStored
        (operand ws 0)
      (operand ws 1) ((s.zone? (operand ws 0) (operand ws 1)).map (fun r => r.state))).1
    cases hr : s.zone? (operand ws 0) (operand ws 1) with
    | none => exact .cal _ _ _ he rfl
    | some r =>
      rw [Option.map_some, State.calStored]
      split_ifs with hkeeps
      · exact .cal _ _ _ he rfl
      · have hzone : (s.setCalEntry (operand ws 0) (operand ws 1) ⟨operand ws 2, operand ws 3⟩).zone? (operand ws 0)
            (operand ws 1) = some r := hr
        exact .calService _ _ _ he _ (sched_makeUnknown hzone (g := fun q => { q with retries := 0 })
          (harmless_of_same (fun _ => rfl) (fun _ => rfl) (fun _ => rfl)) (fun _ => rfl) fun _ => recordLaws_no_retries)
          (moves_enter _ _ _ _ _ _ fun _ => ⟨rfl, rfl⟩) rfl

/-! ### Every request -/

theorem readZonesBody_effect (ws : List Word) (s : State) : BodyEffect .readZones s (readZonesBody ws s).1 := by
  unfold readZonesBody
  dsimp only
  split_ifs
  · exact .same
  · exact .same

theorem readCurveBody_effect (ws : List Word) (s : State) : BodyEffect .readCurve s (readCurveBody ws s).1 := by
  unfold readCurveBody
  dsimp only
  split_ifs
  · exact .same
  · exact .same

/-- The effect of every request of the table whose frame matches it, in a device state that allows it (R177). -/
theorem requestBody_effect (q : Req) (f : Frame) {ws : List Word} {s : State} (hlen : reqOperands q ws = some ws.length)
    (hdevice : reqNeedsConfigured q = true → s.device ≠ .unconfigured) : BodyEffect q s (requestBody q f ws s).1 := by
  cases q with
  | readZones => exact readZonesBody_effect ws s
  | readCurve => exact readCurveBody_effect ws s
  | setMask => exact setMaskBody_effect f.port ws s
  | ackNotices => exact ackNoticesBody_effect f.port ws s
  | configure => exact configureBody_effect ws s hlen
  | takeJob => exact takeJobBody_effect ws s (hdevice rfl)
  | endJob => exact endJobBody_effect ws s
  | setSweep => exact setSweepBody_effect ws s
  | discardStage => exact .discard rfl
  | defineCurve => exact defineCurveBody_effect ws s hlen
  | deleteCurve => exact deleteCurveBody_effect ws s
  | setConsoleTrim => exact consoleTrimBody_effect ws s ⟨rfl, rfl⟩ absoluteTrim
  | adjustConsoleTrim => exact consoleTrimBody_effect ws s ⟨rfl, rfl⟩ adjustedTrim
  | clearTrims => exact clearTrimsBody_effect ws s
  | setLoopHold => exact setLoopHoldBody_effect ws s
  | disableZone => exact zoneRequest_effect ws s fun _ _ _ => disableZoneBody_effect
  | enableZone => exact zoneRequest_effect ws s fun _ _ _ => enableZoneBody_effect
  | releaseZone => exact zoneRequest_effect ws s fun _ _ _ => releaseZoneBody_effect
  | setKeyCal => exact setKeyCalBody_effect ws s
  | readEcho => exact zoneRequest_effect ws s fun _ _ _ _ => .same
  | holdKeys => exact .hold true
  | resumeKeys => exact .hold false
  | setLimits => exact setLimitsBody_effect ws s
  | supplyRetry => exact supplyRetryBody_effect ws s
  | setLoopParameters => exact setLoopParametersBody_effect ws s
  | setTestPosting => exact setTestPostingBody_effect ws s
  | testNotice => exact testNoticeBody_effect ws s
  | beginStage => exact beginStageBody_effect ws s hlen
  | stageUnit => exact stageUnitBody_effect ws s
  | stageData => exact stageDataBody_effect ws s hlen
  | endStage => exact endStageBody_effect ws s
  | applyDeviations => exact applyDeviationsBody_effect ws s
  | identify => exact .same
  | readStatus => exact .same
  | readJob => exact .same
  | portReset => exact .same
  | deviceReset => exact .same

end Sys2Proof.Claims
end

section
/-! PROOF. What every command can do: one form for each kind of effect, and the form of each command. -/

namespace Sys2Proof.Claims

open Sys2Proof.Machine Sys2Proof.Safety

/-! ### The forms -/

/-- The write is of an entry as it stands in `x`. -/
def WriteOf (x : State) (w : TableWrite) : Prop :=
  (∃ k, w = .curve k (x.curve? k)) ∨ ∃ u z, w = .cal u z (x.calEntry u z)

/-- The requests that write an entry of the two tables (R24, R25, R85). -/
def WritesTable (q : Req) : Prop := q = .defineCurve ∨ q = .deleteCurve ∨ q = .setKeyCal

/-- The tables of `x` are those of `s` with the write stored. -/
def Stored (s x : State) : Option TableWrite → Prop
  | none => x.cal = s.cal ∧ x.curves = s.curves
  | some v => ∀ k : Kept, k.cal = s.cal → k.curves = s.curves → (k.store v).cal = x.cal ∧ (k.store v).curves = x.curves

/-- A line begins a transaction in its turn alone, as it stands or as its rest has ended (R149). -/
def TurnStarts (s t : State) : Prop :=
  ∀ w, (s.line w).phase ≠ .sending → (t.line w).phase = .sending →
    ∃ x, (x = s ∨ ∃ l : Line, l.phase = .free ∧ x = s.setLine w l) ∧ t = x.turn w

/-- What a command can do to the state. -/
inductive Effect (s : State) : State → Prop
  | quiet {t : State}
      (hframe : t = { s with
        clock := t.clock, ports := t.ports, press := t.press, supply := { s.supply with ok := t.supply.ok } })
      (hfreeze : t.press.freeze.filtered = s.press.freeze.filtered ∨ s.press.phase ≠ .running)
      (hphase : s.press.phase = .running → t.press.phase = .running)
      (hbusy : ∀ p, (t.port p).isBusy = (s.port p).isBusy) : Effect s t
  | ended (p : Port) : Effect s ((s.commit p).modPort p PortCtl.finish)
  | reset {t : State}
      (hframe : t = { State.reset with
        pending := s.pending, clock := t.clock, cal := t.cal, curves := t.curves, kept := t.kept
        supply := { State.reset.supply with ok := t.supply.ok }, press := t.press })
      (htables : (t.cal = State.reset.cal ∧ t.curves = State.reset.curves ∧ t.kept = State.reset.kept) ∨
        t.cal = s.kept.cal ∧ t.curves = s.kept.curves ∧ t.kept = s.kept.discard) : Effect s t
  | sched (x : State) (hsched : Sched s x) (hlines : LinesOk s → LinesOk x)
      (hturn : TurnStarts s x.settle) : Effect s x.settle
  | line (u : Nat) (l : Line) (hlines : LinesOk s → LinesOk (s.setLine u l))
      (hturn : TurnStarts s (s.setLine u l)) : Effect s (s.setLine u l)
  | grant (u : Nat) (h : s.arbiterPick = some u) (hlines : LinesOk s → LinesOk (s.grantTo u)) : Effect s (s.grantTo u)
  | freezeOn (l : Level) (hl : l.filtered = true) :
      Effect s (({ s with press := { s.press with freeze := l } } : State).freezeAsserted.post .freezeChange)
  | freezeOff (l : Level) (hl : l.filtered = false) :
      Effect s (({ s with press := { s.press with freeze := l } } : State).post .freezeChange)
  | supplyOn (l : Level) (hw : s.supply.state = .warming) :
      Effect s ({ s with supply := { s.supply with ok := l, state := .on, warmUp := none } } : State).settle
  | supplyLost (l : Level) (hon : s.supply.state = .on) :
      Effect s ({ s with supply := { s.supply with ok := l } } : State).supplyLoss
  | warmUpOver (hw : s.supply.state = .warming) :
      Effect s (({ s with supply := { s.supply with state := .failed, warmUp := none } } : State).post .supplyAlert)
  | standbyOver (hs : s.standbyCondition = true) :
      Effect s { s with supply := { s.supply with state := .off, standby := none } }
  | request {q : Req} (p : Port) (code : BitVec 8) (tag : BitVec 4) (a : Answer) (x : State) (w : Option TableWrite)
      (hbody : BodyEffect q (s.shiftZero p) x) (hrun : s.press.phase = .running) (hw : ∀ v ∈ w, WriteOf x v)
      (hfree : (s.port p).isBusy = false) (hstored : w = none ∧ ¬ WritesTable q ∨ Stored s x w) :
      Effect s (x.beginExecution p code tag a w)

/-! ### Commands of the ports -/

theorem effect_same (s : State) : Effect s s := .quiet rfl (.inl rfl) id fun _ => rfl

/-- A change of one port that leaves BUSY ports BUSY and others not. -/
theorem effect_ports (s : State) (p : Port) {f : PortCtl → PortCtl} (hf : ∀ c, (f c).isBusy = c.isBusy) :
    Effect s (s.modPort p f) := by
  refine .quiet rfl (.inl rfl) id fun q => ?_
  rw [State.port_modPort]
  split_ifs with h
  · rw [h, hf]
  · rfl

theorem effect_shiftOnes (s : State) (p : Port) (n : Nat) : Effect s (s.shiftOnes p n) := effect_ports s p fun _ => rfl

theorem effect_dropped (s : State) (p : Port) : Effect s ((s.shiftZero p).setDropped p) := by
  rw [setDropped_shiftZero]
  exact effect_ports s p fun _ => rfl

/-- A table write that a request leaves under way is one of the state it leaves. -/
theorem tableWrite_of (q : Req) (ws : List Word) (o : ResultCode) (x : State) : ∀ v ∈ tableWrite q ws o x, WriteOf x v := by
  intro v hv
  unfold tableWrite at hv
  split_ifs at hv
  · cases q
    case defineCurve => exact .inl ⟨_, (Option.some.inj hv).symm⟩
    case deleteCurve => exact .inl ⟨_, (Option.some.inj hv).symm⟩
    case setKeyCal => exact .inr ⟨_, _, (Option.some.inj hv).symm⟩
    all_goals cases hv
  · cases hv

section
variable (ws : List Word) (s : State)

theorem stored_curve {s x : State} {k : Nat} (hk : k ≤ 15) {c : Option Curve} (hx : x = s.setCurve k c) :
    Stored s x (some (.curve k (x.curve? k))) := by
  intro j hcal hcurves
  subst hx
  rw [curve?_setCurve_same s c hk]
  exact ⟨hcal, congrArg (fun v => v.setIfInBounds k c) hcurves⟩

theorem defineCurve_stored :
    Stored s (defineCurveBody ws s).1 (tableWrite .defineCurve ws (defineCurveBody ws s).2.outcome (defineCurveBody ws s).1) := by
  unfold defineCurveBody
  dsimp only
  split
  · exact ⟨rfl, rfl⟩
  · next h =>
    split_ifs
    · exact ⟨rfl, rfl⟩
    · unfold curveCheck at h
      split_ifs at h with hk
      exact stored_curve (not_lt.mp hk) rfl

theorem deleteCurve_stored :
    Stored s (deleteCurveBody ws s).1 (tableWrite .deleteCurve ws (deleteCurveBody ws s).2.outcome (deleteCurveBody ws s).1) := by
  unfold deleteCurveBody
  dsimp only
  split_ifs with hk
  · exact ⟨rfl, rfl⟩
  · exact ⟨rfl, rfl⟩
  · exact stored_curve (not_lt.mp hk) rfl

theorem moves_curves {s t : State} (h : Moves s t) : t.curves = s.curves := by
  rw [h.rest]

theorem calStored_tables (u z : Nat) (k : Option KeyState) : (s.calStored u z k).1.cal = s.cal ∧
    (s.calStored u z k).1.curves = s.curves := by
  unfold State.calStored
  cases k with
  | none => exact ⟨rfl, rfl⟩
  | some k =>
    dsimp only
    split_ifs
    · exact ⟨rfl, rfl⟩
    · exact ⟨moves_cal (moves_enter_settle fun _ => rfl), moves_curves (moves_enter_settle fun _ => rfl)⟩

theorem setKeyCal_stored :
    Stored s (setKeyCalBody ws s).1 (tableWrite .setKeyCal ws (setKeyCalBody ws s).2.outcome (setKeyCalBody ws s).1) := by
  unfold setKeyCalBody
  dsimp only
  split_ifs with hplace
  case neg =>
    obtain ⟨hcal, hcurves⟩ := calStored_tables (s.setCalEntry (operand ws 0) (operand ws 1) ⟨operand ws 2, operand ws 3⟩)
      (operand ws 0) (operand ws 1) ((s.zone? (operand ws 0) (operand ws 1)).map fun r => r.state)
    intro k hk hkc
    have hentry : calAt (putCal s.cal (operand ws 0) (operand ws 1) ⟨operand ws 2, operand ws 3⟩) (operand ws 0) (operand ws 1) =
        ⟨operand ws 2, operand ws 3⟩ := by
      rw [calAt_putCal, if_pos (by omega)]
    refine ⟨?_, hkc.trans hcurves.symm⟩
    change putCal k.cal _ _ (calAt _ _ _) = _
    rw [accept, hcal, hk]
    exact congrArg _ hentry
  all_goals exact ⟨rfl, rfl⟩

theorem tableWrite_of_not_writesTable {q : Req} {ws : List Word} {o : ResultCode} {x : State} (hq : ¬ WritesTable q) :
    tableWrite q ws o x = none :=
  tableWrite_of_other ws o x (fun h => hq (.inl h)) (fun h => hq (.inr (.inl h))) fun h => hq (.inr (.inr h))

/-- What a request leaves under way is what it has written into the tables (log 7). -/
theorem requestBody_stored (q : Req) (f : Frame) :
    tableWrite q ws (requestBody q f ws s).2.outcome (requestBody q f ws s).1 = none ∧ ¬ WritesTable q ∨
      Stored s (requestBody q f ws s).1 (tableWrite q ws (requestBody q f ws s).2.outcome (requestBody q f ws s).1) := by
  by_cases hq : WritesTable q
  · right
    rcases hq with rfl | rfl | rfl
    exacts [defineCurve_stored ws s, deleteCurve_stored ws s, setKeyCal_stored ws s]
  · exact .inl ⟨tableWrite_of_not_writesTable hq, hq⟩

end

/-- The frame of a request that passes the frame checks has the operand words the request requires. -/
theorem operands_of_refusal_none {q : Req} {f : Frame} {d : DeviceState} (h : frameRefusal q f d = none) :
    reqOperands q f.words = some f.words.length ∧ (reqNeedsConfigured q = true → d ≠ .unconfigured) := by
  obtain ⟨hmatch, -, hdevice⟩ := frameRefusal_eq_none.mp h
  obtain ⟨l, -, -, hlen, -, hops⟩ := frameMatches_iff.mp hmatch
  exact ⟨by rw [hlen]; exact hops, hdevice⟩

/-- A frame clocked outside RUNNING, or at a BUSY port, or taken (R175, R176). -/
theorem takeRequest_next {f : Frame} {take : State → State} {s t : State} (h : takeRequest f take s = .next t) :
    t = s.shiftOnes f.port (frameClocked f) ∨ t = (s.shiftZero f.port).setDropped f.port ∨
      s.press.phase = .running ∧ (s.port f.port).isBusy = false ∧ t = take (s.shiftZero f.port) := by
  unfold takeRequest at h
  split_ifs at h with hrun hbusy
  · exact .inl (Host.Outcome.next.inj h).symm
  · exact .inr (.inl (Host.Outcome.next.inj h).symm)
  · refine .inr (.inr ⟨?_, Bool.eq_false_iff.mpr hbusy, (Host.Outcome.next.inj h).symm⟩)
    simpa [State.isRunning] using hrun

/-- DEVICE RESET and the fall of RESET put the part in reset (R172, R174). -/
theorem effect_toHeld (s : State) (pin : Bool) : Effect s (s.setResetPin pin).toHeld :=
  .reset rfl (.inr ⟨rfl, rfl, rfl⟩)

theorem effect_command {q : Req} {f : Frame} {s t : State} (hq : q ≠ .portReset) (h : exec (command q f) s = .next t) :
    Effect s t := by
  rw [exec_command hq] at h
  obtain rfl | rfl | ⟨hrun, hfree, rfl⟩ := takeRequest_next h
  · exact effect_shiftOnes s _ _
  · exact effect_dropped s _
  · unfold requestTaken
    split_ifs with hreset
    · cases hrefusal : frameRefusal .deviceReset f (s.shiftZero f.port).device with
      | some a => exact .request (q := .deviceReset) f.port _ _ a _ none .same hrun nofun hfree (.inr ⟨rfl, rfl⟩)
      | none => exact .reset rfl (.inr ⟨rfl, rfl, rfl⟩)
    · unfold judged
      cases hrefusal : frameRefusal q f (s.shiftZero f.port).device with
      | some a => exact .request (q := q) f.port _ _ a _ none .same hrun nofun hfree (.inr ⟨rfl, rfl⟩)
      | none =>
        obtain ⟨hlen, hdevice⟩ := operands_of_refusal_none hrefusal
        exact .request f.port _ _ _ _ _ (requestBody_effect q f hlen hdevice) hrun (tableWrite_of q f.words _ _) hfree
          (requestBody_stored f.words (s.shiftZero f.port) q f)

theorem effect_portReset {f : Frame} {s t : State} (h : exec (.portReset f) s = .next t) : Effect s t := by
  rw [exec_portReset] at h
  unfold execPortReset at h
  split_ifs at h <;> cases h
  · exact effect_shiftOnes s _ _
  · have htwice : (s.shiftZero f.port).modPort f.port PortCtl.takeReset =
        s.modPort f.port fun c => PortCtl.takeReset { c with out := [0] } := State.modPort_modPort s _ _ _
    rw [htwice]
    refine effect_ports s f.port fun c => ?_
    unfold PortCtl.takeReset PortCtl.reset PortCtl.isBusy
    cases c.cmd <;> rfl

theorem effect_unknownRequest {code : BitVec 8} {f : Frame} {s t : State} (h : exec (.unknownRequest code f) s = .next t) :
    Effect s t := by
  change execUnknownRequest code f s = .next t at h
  unfold execUnknownRequest at h
  split_ifs at h
  · cases h
    exact effect_same s
  · obtain rfl | rfl | ⟨hrun, hfree, rfl⟩ := takeRequest_next h
    · exact effect_shiftOnes s _ _
    · exact effect_dropped s _
    · exact .request (q := .identify) f.port _ _ _ _ none .same hrun nofun hfree (.inr ⟨rfl, rfl⟩)

theorem effect_fetch {p : Port} {n : Nat} {s t : State} (h : exec (.fetch p n) s = .next t) : Effect s t := by
  change execFetch p n s = .next t at h
  unfold execFetch at h
  split_ifs at h <;> cases h
  exacts [effect_same s, effect_shiftOnes s _ _, effect_ports s _ fun _ => rfl]

theorem effect_unknownFrameType {p : Port} {type : BitVec 4} {n : Nat} {s t : State}
    (h : exec (.unknownFrameType p type n) s = .next t) : Effect s t := by
  change execUnknownFrameType p type n s = .next t at h
  unfold execUnknownFrameType at h
  split_ifs at h <;> cases h
  exacts [effect_same s, effect_shiftOnes s _ _, effect_dropped s _]

theorem effect_requestDiscardedBusy {p : Port} {n : Nat} {s t : State} (h : exec (.requestDiscardedBusy p n) s = .next t) :
    Effect s t := by
  change execRequestDiscardedBusy p n s = .next t at h
  unfold execRequestDiscardedBusy at h
  split_ifs at h <;> cases h
  exacts [effect_same s, effect_shiftOnes s _ _, effect_dropped s _, effect_same s]

/-! ### The lines' laws -/

/-- A line that starts a transaction (R134). -/
theorem lineOk_sending (s : State) (u z : Nat) {v : Verb} {ticks : Option (BitVec 13)} (saved : Option PollDue)
    (h : ticks.isSome ↔ v = .move) : LineOk (sending s u z v ticks saved) := by
  refine ⟨⟨nofun, nofun⟩, fun t ht => ?_⟩
  obtain rfl := Option.some.inj ht
  exact ⟨h, fun e => absurd rfl e, nofun, fun e => e.elim nofun nofun, nofun, nofun⟩

theorem mem_put1 {α : Type} {n : Nat} {v : Vector α n} {i : Nat} {x y : α} (h : y ∈ (put1 v i x).toList) :
    y = x ∨ y ∈ v.toList := by
  unfold put1 at h
  split_ifs at h
  · exact .inr h
  · obtain ⟨j, hj, rfl⟩ := List.mem_iff_getElem.mp h
    rw [Vector.getElem_toList, Vector.getElem_setIfInBounds]
    split_ifs
    · exact .inl rfl
    · exact .inr (by simp)

/-- Writing a lawful line keeps the lines' laws. -/
theorem linesOk_setLine {s : State} (h : LinesOk s) (u : Nat) {l : Line} (hl : LineOk l) : LinesOk (s.setLine u l) := by
  intro x hx
  rcases mem_put1 hx with rfl | hx
  · exact hl
  · exact h x hx

/-- The line of a unit is lawful. -/
theorem linesOk_line {s : State} (h : LinesOk s) (u : Nat) : LineOk (s.line u) := by
  unfold State.line at1
  split_ifs
  · exact lineOk_afterReset
  · rw [vector_getD]
    by_cases hu : u - 1 < 8
    · rw [Vector.getElem?_eq_getElem hu, Option.getD_some]
      exact h _ (by simp)
    · rw [Vector.getElem?_eq_none (by omega), Option.getD_none]
      exact lineOk_afterReset

theorem linesOk_congr {s t : State} (h : LinesOk s) (hlines : t.lines = s.lines) : LinesOk t := by
  intro l hl
  rw [hlines] at hl
  exact h l hl

theorem linesOk_startTransaction {s : State} (h : LinesOk s) (u z : Nat) {v : Verb} {ticks : Option (BitVec 13)}
    (saved : Option PollDue) (ht : ticks.isSome ↔ v = .move) : LinesOk (s.startTransaction u z v ticks saved) :=
  linesOk_setLine h u (lineOk_sending s u z saved ht)

theorem linesOk_startMove {s : State} (h : LinesOk s) (u z : Nat) : LinesOk (s.startMove u z) :=
  linesOk_startTransaction h u z none (iff_of_true Option.isSome_some rfl)

theorem linesOk_startSense {s : State} (h : LinesOk s) (u z : Nat) (saved : Option PollDue) :
    LinesOk (s.startTransaction u z .sense none saved) :=
  linesOk_startTransaction h u z saved ⟨nofun, nofun⟩

theorem linesOk_grantTo {s : State} (h : LinesOk s) (u : Nat) : LinesOk (s.grantTo u) := by
  unfold State.grantTo
  split
  · exact h
  · next z _ _ =>
    refine linesOk_startMove (s := { (s.dequeue u z).modZone u z fun r =>
      { r with state := .moving, moveStart := some s.clock.now.ms } with pointer := u }) ?_ u z
    exact h

theorem linesOk_pollsAndRetries (u : Nat) (zs : List Nat) {s : State} (h : LinesOk s) : LinesOk (pollsAndRetries u zs s).1 := by
  induction zs generalizing s with
  | nil => exact h
  | cons z rest ih =>
    unfold pollsAndRetries
    cases s.zone? u z with
    | none => exact ih h
    | some r =>
      dsimp only
      split_ifs
      · exact linesOk_startSense (s := s.modZone u z fun r => { r with pollDue := none }) h u z _
      · exact ih (linesOk_congr h (moves_evaluate s u z).lines)
      · exact ih (linesOk_congr h (moves_requeue s u z).lines)
      · exact ih h
      · exact linesOk_startMove (s := s.modZone u z fun r => { r with retryDue := false, moveStart := some s.clock.now.ms }) h u z
      · exact ih h

theorem linesOk_moveOrSurvey {s : State} (h : LinesOk s) (u : Nat) : LinesOk (s.moveOrSurvey u) := by
  unfold State.moveOrSurvey
  split_ifs
  · exact linesOk_grantTo h u
  · cases s.surveyChoice u with
    | none => exact h
    | some z => exact linesOk_startSense h u z none

/-! ### Turns -/

/-- A change of one line to another phase begins no transaction. -/
theorem turnStarts_setLine {s t : State} {u : Nat} {l : Line} (hl : l.phase ≠ .sending) (hlines : t.lines =
    (s.setLine u l).lines) :
    TurnStarts s t := by
  intro w hfree hsending
  have hline : t.line w = (s.setLine u l).line w := by rw [State.line, hlines]; rfl
  rw [hline, State.line_setLine] at hsending
  split_ifs at hsending
  · exact absurd hsending hl
  · exact absurd hsending hfree

theorem turnStarts_turn {s x : State} (u : Nat) (hx : x = s ∨ ∃ l : Line, l.phase = .free ∧ x = s.setLine u l) :
    TurnStarts s (x.turn u) := by
  intro w hfree hsending
  have hother : ∀ w, w ≠ u → x.line w = s.line w := by
    rcases hx with rfl | ⟨l, -, rfl⟩
    · exact fun _ _ => rfl
    · exact fun w hw => line_setLine_ne hw l
  have hturn : (x.turn u).line w = x.line w ∨ w = u := by
    obtain h | ⟨z, v, ticks, saved, h⟩ := startsAtMost_turn x u
    · exact .inl (congrArg (fun lines => at1 lines w Line.afterReset) h)
    · by_cases hw : w = u
      · exact .inr hw
      · exact .inl ((congrArg (fun lines => at1 lines w Line.afterReset) h).trans (line_setLine_ne hw _))
  by_cases hw : w = u
  · subst hw
    exact ⟨x, hx, rfl⟩
  · rw [hturn.resolve_right hw, hother w hw] at hsending
    exact absurd hsending hfree

/-- A turn of the line, as it stands or as its rest has ended (R149). -/
theorem effect_turn {s x : State} (u : Nat) (hx : x = s ∨ ∃ l : Line, l.phase = .free ∧ x = s.setLine u l) (hlines :
    LinesOk s → LinesOk x) :
    Effect s (x.turn u) := by
  have hturn := turnStarts_turn u hx
  have hsched : Sched s x := by
    rcases hx with rfl | ⟨l, -, rfl⟩
    · exact .refl x
    · exact .setLine s u l
  have hstart : ∀ l, ∃ l', x.setLine u l = s.setLine u l' := by
    rcases hx with rfl | ⟨l, -, rfl⟩
    · exact fun l => ⟨l, rfl⟩
    · exact fun l' => ⟨l', setLine_setLine s u l l'⟩
  have hpolls := sched_pollsAndRetries u ((x.unitZones u).map ZoneRec.zone) x
  unfold State.turn at hturn ⊢
  split_ifs at hturn ⊢
  · cases hhalt : x.haltChoice u with
    | some z =>
      obtain ⟨l, hl⟩ := hstart (sending x u z .halt none none)
      have hok : LinesOk s → LinesOk (s.setLine u l) := fun h =>
        hl ▸ linesOk_setLine (hlines h) u (lineOk_sending x u z none (iff_of_false nofun nofun))
      rw [hhalt] at hturn
      change TurnStarts s (x.startTransaction u z .halt none none) at hturn
      change Effect s (x.startTransaction u z .halt none none)
      rw [startTransaction_eq, hl] at hturn ⊢
      exact .line u l hok hturn
    | none =>
      rw [hhalt] at hturn
      dsimp only at hturn ⊢
      split_ifs at hturn ⊢
      · exact .sched _ (hsched.trans hpolls) (fun h => linesOk_pollsAndRetries u _ (hlines h)) hturn
      · exact .sched _ ((hsched.trans hpolls).trans (sched_moveOrSurvey _ u))
          (fun h => linesOk_moveOrSurvey (linesOk_pollsAndRetries u _ (hlines h)) u) hturn
  · rcases hx with rfl | ⟨l, -, rfl⟩
    · exact effect_same x
    · exact .line u l hlines hturn

theorem effect_lineTurn {u : Nat} {s t : State} (h : exec (.lineTurn u) s = .next t) : Effect s t := by
  rw [exec_lineTurn] at h
  cases h
  exact effect_turn u (.inl rfl) id

theorem effect_grant {s t : State} (h : exec .grant s = .next t) : Effect s t := by
  change execGrant s = .next t at h
  unfold execGrant at h
  cases hpick : s.arbiterPick with
  | none =>
    rw [hpick] at h
    cases h
    exact effect_same s
  | some u =>
    rw [hpick] at h
    cases h
    exact .grant u hpick fun h => linesOk_grantTo h u

theorem effect_pollDue {u z : Nat} {s t : State} (h : exec (.pollDue u z) s = .next t) : Effect s t := by
  change execPollDue u z s = .next t at h
  unfold execPollDue at h
  cases hr : s.zone? u z with
  | none =>
    rw [hr] at h
    cases h
    exact effect_same s
  | some r =>
    rw [hr] at h
    dsimp only at h
    split_ifs at h <;> cases h
    · exact effect_turn u (.inl rfl) id
    · exact effect_same s

/-! ### The events of a transaction -/

/-- The line's law at the end of its transaction (R139). -/
theorem lineOk_ended {l : Line} {t : Txn} (h : LineOk l) (ht : l.txn = some t) (hp : l.phase ≠ .sending) (now : BitVec 16) :
    LineOk (l.ended t now) := by
  obtain ⟨hticks, hreq, -⟩ := h.2 t ht
  refine ⟨iff_of_false nofun nofun, fun t' ht' => ?_⟩
  obtain rfl := Option.some.inj ht'
  exact ⟨hticks, fun _ => hreq hp, nofun, fun e => e.elim nofun nofun, nofun, fun _ => ⟨rfl, rfl⟩⟩

/-- A transaction that ends: its line rests and its verdict is taken (R139, R143). -/
theorem effect_verdict {s : State} {u : Nat} {l : Line} (t : Txn) {v : Verdict} (hv : VerdictOk v) (hphase : l.phase ≠ .sending)
    (hl : LinesOk s → LineOk l) : Effect s ((s.setLine u l).takeVerdict u t v) := by
  have hlines : LinesOk s → LinesOk (s.setLine u l) := fun h => linesOk_setLine h u (hl h)
  have hkeep := (moves_takeVerdict (s.setLine u l) u t v).lines
  obtain he | ⟨x, hx, he⟩ := sched_takeVerdict (s.setLine u l) u t hv
  · rw [he]
    exact .line u l hlines (turnStarts_setLine hphase rfl)
  · rw [he] at hkeep ⊢
    exact .sched x (.trans (.setLine s u l) hx) (fun h => linesOk_congr (hlines h) ((moves_settle x).lines ▸ hkeep))
      (turnStarts_setLine hphase hkeep)

section
variable {u : Nat} {s t : State}

theorem effect_requestFrameEnd (h : exec (.requestFrameEnd u) s = .next t) : Effect s t := by
  change execRequestFrameEnd u s = .next t at h
  unfold execRequestFrameEnd at h
  dsimp only at h
  split at h
  · next x hp hx =>
    split_ifs at h <;> cases h
    · refine .line u _ (fun hlines => linesOk_setLine hlines u ⟨iff_of_false nofun nofun, fun t' ht' => ?_⟩)
            (turnStarts_setLine (by exact nofun) rfl)
      obtain rfl := Option.some.inj ht'
      obtain ⟨hticks, -⟩ := (linesOk_line hlines u).2 x hx
      exact ⟨hticks, fun _ => rfl, nofun, fun e => e.elim nofun nofun, nofun, nofun⟩
    · exact effect_same s
  · cases h
    exact effect_same s

theorem effect_statusSymbolStart (h : exec (.statusSymbolStart u) s = .next t) : Effect s t := by
  change execStatusSymbolStart u s = .next t at h
  unfold execStatusSymbolStart at h
  dsimp only at h
  split at h
  · next x hp hx =>
    split at h
    · split_ifs at h <;> cases h
      · refine .line u _ (fun hlines => linesOk_setLine hlines u ⟨iff_of_false nofun nofun, fun t' ht' => ?_⟩)
            (turnStarts_setLine (by exact nofun) rfl)
        obtain rfl := Option.some.inj ht'
        obtain ⟨hticks, hreq, -⟩ := (linesOk_line hlines u).2 x hx
        exact ⟨hticks, fun _ => hreq (by rw [hp]; decide), fun _ => rfl, fun e => e.elim nofun nofun, nofun, nofun⟩
      · exact effect_same s
    · cases h
      exact effect_same s
  · cases h
    exact effect_same s

theorem effect_statusSymbol {code : BitVec 2} {parity stop : Bool} (h : exec (.statusSymbol u code parity stop) s = .next t) :
    Effect s t := by
  change execStatusSymbol u code parity stop s = .next t at h
  unfold execStatusSymbol at h
  dsimp only at h
  split at h
  · next x hp hx =>
    split at h
    · split_ifs at h <;> cases h
      · refine .line u _ (fun hlines => linesOk_setLine hlines u ⟨iff_of_false nofun nofun, fun t' ht' => ?_⟩)
            (turnStarts_setLine (by exact nofun) rfl)
        obtain rfl := Option.some.inj ht'
        obtain ⟨hticks, hreq, -⟩ := (linesOk_line hlines u).2 x hx
        exact ⟨hticks, fun _ => hreq (by rw [hp]; decide), nofun, fun _ => ⟨rfl, rfl⟩, nofun, nofun⟩
      · exact effect_same s
    · cases h
      exact effect_same s
  · cases h
    exact effect_same s

theorem effect_echoRisingEdge (h : exec (.echoRisingEdge u) s = .next t) : Effect s t := by
  change execEchoRisingEdge u s = .next t at h
  unfold execEchoRisingEdge at h
  dsimp only at h
  split at h
  · next x hp hx =>
    split at h
    · split_ifs at h <;> cases h
      · refine .line u _ (fun hlines => linesOk_setLine hlines u ⟨iff_of_false nofun (by rw [hx]; nofun), fun t' ht' => ?_⟩)
            (turnStarts_setLine (by exact nofun) rfl)
        obtain ⟨hticks, hreq, -, hsymbol, -⟩ := (linesOk_line hlines u).2 t' ht'
        exact ⟨hticks, fun _ => hreq (by rw [hp]; decide), nofun, fun _ => hsymbol (.inl hp), fun _ => rfl, nofun⟩
      · exact effect_same s
    · cases h
      exact effect_same s
  · cases h
    exact effect_same s

theorem effect_noReply (h : exec (.noReply u) s = .next t) : Effect s t := by
  change execNoReply u s = .next t at h
  unfold execNoReply at h
  dsimp only at h
  split at h
  · next x hp hx =>
    split at h
    · split_ifs at h <;> cases h
      · exact effect_verdict x nofun (by exact nofun) fun hlines => lineOk_ended (linesOk_line hlines u) hx (by rw [hp]; decide) _
      · exact effect_same s
    · cases h
      exact effect_same s
  · cases h
    exact effect_same s

theorem effect_lineErrorLimit (h : exec (.lineErrorLimit u) s = .next t) : Effect s t := by
  have hend : ∀ x, (s.line u).txn = some x → (s.line u).phase ≠ .sending → Effect s (s.endTransaction u x .lineError) :=
    fun x hx hp => effect_verdict x nofun (by exact nofun) fun hlines => lineOk_ended (linesOk_line hlines u) hx hp _
  change execLineErrorLimit u s = .next t at h
  unfold execLineErrorLimit at h
  dsimp only at h
  split at h
  case h_4 =>
    cases h
    exact effect_same s
  all_goals
    next x hp hx =>
    split at h
    · split_ifs at h <;> cases h
      · exact hend x hx (by rw [hp]; decide)
      · exact effect_same s
    · cases h
      exact effect_same s

theorem effect_echoEnd (h : exec (.echoEnd u) s = .next t) : Effect s t := by
  change execEchoEnd u s = .next t at h
  unfold execEchoEnd at h
  dsimp only at h
  split at h
  · next x hp hx =>
    split at h
    · split_ifs at h <;> cases h
      · unfold State.endTransaction
        rw [setLine_setLine, line_setLine_same (line_in_range hx).1 (line_in_range hx).2]
        refine effect_verdict x (judgeEcho_ok _ _ _) (by exact nofun) fun hlines => ?_
        exact lineOk_ended (l := s.line u) (linesOk_line hlines u) hx (by rw [hp]; decide) _
      · exact effect_same s
    · cases h
      exact effect_same s
  · cases h
    exact effect_same s

theorem effect_restEnd (h : exec (.restEnd u) s = .next t) : Effect s t := by
  change execRestEnd u s = .next t at h
  unfold execRestEnd at h
  dsimp only at h
  split at h
  · next x hp hx =>
    split at h
    · split_ifs at h <;> cases h
      · exact effect_turn u (.inr ⟨_, rfl, rfl⟩) fun hlines => linesOk_setLine hlines u ⟨iff_of_true rfl rfl, nofun⟩
      · exact effect_same s
    · cases h
      exact effect_same s
  · cases h
    exact effect_same s

end

/-! ### The press drive signals, the supply and the resets -/

section
variable {s t : State}

theorem effect_sheetEdge {level : Bool} (h : exec (.sheetEdge level) s = .next t) : Effect s t := by
  have hpin : Effect s { s with press := { s.press with sheetPin := level } } := .quiet rfl (.inl rfl) id fun _ => rfl
  rw [exec_sheetEdge] at h
  split_ifs at h <;> cases h
  · exact effect_same s
  · unfold State.risingSheet
    split_ifs
    · exact .quiet rfl (.inl rfl) id fun _ => rfl
    · exact hpin
  · exact hpin

theorem rawChange_filtered (l : Level) (level : Bool) (now : Instant) : (l.rawChange level now).filtered = l.filtered := by
  unfold Level.rawChange
  split_ifs <;> rfl

/-- A change of a press level that keeps the filtered level. -/
theorem effect_setLevel (w : PressLevel) {l : Level} (hl : l.filtered = (s.press.level w).filtered) : Effect s
    (s.setLevel w l) := by
  cases w with
  | impression => exact .quiet rfl (.inl rfl) id fun _ => rfl
  | freeze => exact .quiet rfl (.inl hl) id fun _ => rfl

theorem effect_pressLevelRawChange {w : PressLevel} {level : Bool} (h : exec (.pressLevelRawChange w level) s = .next t) :
    Effect s t := by
  change execPressLevelRawChange w level s = .next t at h
  unfold execPressLevelRawChange at h
  dsimp only at h
  split_ifs at h <;> cases h
  · exact effect_setLevel w (rawChange_filtered _ _ _)
  · exact effect_setLevel w rfl

theorem effect_pressLevelFilterExpiry {w : PressLevel} (h : exec (.pressLevelFilterExpiry w) s = .next t) : Effect s t := by
  change execPressLevelFilterExpiry w s = .next t at h
  unfold execPressLevelFilterExpiry at h
  dsimp only at h
  split_ifs at h <;> cases h
  · cases w with
    | impression => exact .quiet rfl (.inl rfl) id fun _ => rfl
    | freeze =>
      cases hl : s.press.freeze.take.filtered with
      | false =>
        have he : (s.setLevel .freeze s.press.freeze.take).levelTaken .freeze =
            (s.setLevel .freeze s.press.freeze.take).post .freezeChange := if_neg (by rw [Bool.not_eq_true]; exact hl)
        exact he ▸ .freezeOff _ hl
      | true =>
        have he : (s.setLevel .freeze s.press.freeze.take).levelTaken .freeze =
            (s.setLevel .freeze s.press.freeze.take).freezeAsserted.post .freezeChange := if_pos hl
        exact he ▸ .freezeOn _ hl
  · exact effect_same s

theorem effect_setSupplyOk (l : Level) : Effect s (s.setSupplyOk l) := .quiet rfl (.inl rfl) id fun _ => rfl

theorem effect_supplyOkRawChange {level : Bool} (h : exec (.supplyOkRawChange level) s = .next t) : Effect s t := by
  change execSupplyOkRawChange level s = .next t at h
  unfold execSupplyOkRawChange at h
  split_ifs at h <;> cases h <;> exact effect_setSupplyOk _

theorem effect_supplyOkFilterExpiry (h : exec .supplyOkFilterExpiry s = .next t) : Effect s t := by
  change execSupplyOkFilterExpiry s = .next t at h
  unfold execSupplyOkFilterExpiry at h
  split_ifs at h <;> cases h
  · unfold State.supplyOkTaken
    split
    · next hw _ => exact .supplyOn _ hw
    · next hon _ => exact .supplyLost _ hon
    all_goals exact effect_setSupplyOk _
  · exact effect_same s

theorem effect_warmUpLimitExpiry (h : exec .warmUpLimitExpiry s = .next t) : Effect s t := by
  change execWarmUpLimitExpiry s = .next t at h
  unfold execWarmUpLimitExpiry at h
  split_ifs at h with he <;> cases h
  · unfold State.warmUpExpired at he
    rw [Bool.and_eq_true, beq_iff_eq] at he
    exact .warmUpOver he.1
  · exact effect_same s

theorem effect_standbyTimerExpiry (h : exec .standbyTimerExpiry s = .next t) : Effect s t := by
  change execStandbyTimerExpiry s = .next t at h
  unfold execStandbyTimerExpiry at h
  split_ifs at h with he <;> cases h
  · unfold State.standbyExpired at he
    rw [Bool.and_eq_true] at he
    exact .standbyOver he.1
  · exact effect_same s

/-- The end of a reset, from a phase other than RUNNING (R172). -/
theorem effect_endReset (hphase : s.press.phase ≠ .running) : Effect s s.endReset :=
  .quiet rfl (.inr hphase) (fun e => absurd e hphase) fun _ => rfl

theorem effect_setResetPin (level : Bool) : Effect s (s.setResetPin level) := .quiet rfl (.inl rfl) id fun _ => rfl

theorem effect_resetLineFall (h : exec .resetLineFall s = .next t) : Effect s t := by
  change execResetLineFall s = .next t at h
  unfold execResetLineFall at h
  split_ifs at h <;> cases h
  · exact effect_same s
  · exact effect_setResetPin false
  · exact effect_toHeld s false

theorem effect_resetLineRise (h : exec .resetLineRise s = .next t) : Effect s t := by
  change execResetLineRise s = .next t at h
  unfold execResetLineRise at h
  split_ifs at h with _ hheld <;> cases h
  · exact effect_same s
  · have hphase : s.press.phase ≠ .running := by rw [hheld]; decide
    exact .quiet rfl (.inr hphase) (fun e => absurd e hphase) fun _ => rfl
  · exact effect_setResetPin true

theorem effect_startUpIntervalEnd (h : exec .startUpIntervalEnd s = .next t) : Effect s t := by
  change execStartUpIntervalEnd s = .next t at h
  unfold execStartUpIntervalEnd at h
  split_ifs at h with hdue _ <;> cases h
  · exact effect_endReset (by rw [hdue.1]; decide)
  · exact .quiet rfl (.inl rfl) (fun e => by rw [hdue.1] at e; cases e) fun _ => rfl
  · exact effect_same s

theorem effect_answerDelayEnd (h : exec .answerDelayEnd s = .next t) : Effect s t := by
  change execAnswerDelayEnd s = .next t at h
  unfold execAnswerDelayEnd at h
  split_ifs at h <;> cases h
  · exact .quiet rfl (.inl rfl) (fun _ => rfl) fun _ => rfl
  · exact effect_same s

end

/-! ### Every command and every step -/

/-- Every command has one of the forms. -/
theorem exec_effect {c : Instr} {s t : State} (h : exec c s = .next t) : Effect s t := by
  induction c using commandCases with
  | request q f =>
    by_cases hq : q = .portReset
    · subst hq
      exact effect_portReset h
    · exact effect_command hq h
  | unknownRequest code f => exact effect_unknownRequest h
  | fetch p n => exact effect_fetch h
  | unknownFrameType p type n => exact effect_unknownFrameType h
  | requestDiscardedBusy p n => exact effect_requestDiscardedBusy h
  | executionEnd p =>
    cases h
    exact .ended p
  | lineTurn u => exact effect_lineTurn h
  | grant => exact effect_grant h
  | pollDue u z => exact effect_pollDue h
  | statusSymbol u code parity stop => exact effect_statusSymbol h
  | noReply u => exact effect_noReply h
  | echoEnd u => exact effect_echoEnd h
  | lineErrorLimit u => exact effect_lineErrorLimit h
  | restEnd u => exact effect_restEnd h
  | sheetEdge level => exact effect_sheetEdge h
  | pressLevelRawChange w level => exact effect_pressLevelRawChange h
  | pressLevelFilterExpiry w => exact effect_pressLevelFilterExpiry h
  | supplyOkRawChange level => exact effect_supplyOkRawChange h
  | supplyOkFilterExpiry => exact effect_supplyOkFilterExpiry h
  | warmUpLimitExpiry => exact effect_warmUpLimitExpiry h
  | standbyTimerExpiry => exact effect_standbyTimerExpiry h
  | resetLineFall => exact effect_resetLineFall h
  | resetLineRise => exact effect_resetLineRise h
  | powerOn =>
    cases h
    exact .reset rfl (.inl ⟨rfl, rfl, rfl⟩)
  | startUpIntervalEnd => exact effect_startUpIntervalEnd h
  | answerDelayEnd => exact effect_answerDelayEnd h
  | requestFrameEnd u => exact effect_requestFrameEnd h
  | statusSymbolStart u => exact effect_statusSymbolStart h
  | echoRisingEdge u => exact effect_echoRisingEdge h

/-- A microsecond moves the clocks alone (R7, R140). -/
theorem effect_tick (s : State) : Effect s s.tick := by
  unfold State.tick
  split <;> exact .quiet rfl (.inl rfl) id fun _ => rfl

/-- What every effect keeps, every step keeps, wherever the queue of commands has no part in it. -/
theorem step_keeps_of_effect {P : State → Prop} (hqueue : ∀ s l, P s → P { s with pending := l })
    (heffect : ∀ s t, P s → Effect s t → P t) {s t : State} (hs : P s) (h : step s = .next t) : P t :=
  step_keeps hqueue (fun s hs => heffect s _ hs (effect_tick s)) (fun _ s t hs h => heffect s t hs (exec_effect h)) hs h

end Sys2Proof.Claims
end

section
/-! PROOF. Zones handled one by one: a batch, the assertion of FREEZE and a supply loss (R112 to R115, R129, R161). -/

namespace Sys2Proof.Claims

open Sys2Proof.Machine Sys2Proof.Safety

/-! ### One zone handled -/

/-- The zone joins the queue of its unit, or leaves it. -/
abbrev Joins (r r' : ZoneRec) : Prop := r.state ≠ .queued ∧ r'.state = .queued
abbrev Leaves (r r' : ZoneRec) : Prop := r.state = .queued ∧ r'.state ≠ .queued

/-- The supply after a zone has joined a queue (R159, R160). -/
def supplyJoined (p : Supply) (queue : List Nat) (now : BitVec 32) : Supply :=
  if p.state = .off ∧ queue = [] then
    if p.ok.filtered then { p with state := .on, warmUp := none, standby := none }
    else { p with state := .warming, warmUp := some now, standby := none }
  else { p with standby := none }

/-- One zone is handled: its record `r` becomes `r'`, it leaves or joins its queue, and a join acts on the supply. -/
structure Handles (x y : State) (r r' : ZoneRec) : Prop where
  moves : Moves x y
  zones : y.zones = zoneSet x r.unit r.zone (fun _ => r')
  queue : ∀ v, y.queue v =
    if v = r.unit then
      (if Leaves r r' then (x.queue v).filter (fun z => z != r.zone) else x.queue v) ++ (if Joins r r' then [r.zone] else [])
    else x.queue v
  ports : y.ports = x.ports
  preset : y.preset = x.preset
  supply : y.supply = if Joins r r' then supplyJoined x.supply (x.queue r.unit) x.clock.now.ms else x.supply

section
variable {x : State} {u z : Nat} {r : ZoneRec} (hrecords : RecordsOk x) (hr : x.zone? u z = some r)
include hrecords hr

/-- A record changed within its key state. -/
theorem handles_modZone {f : ZoneRec → ZoneRec} (hf : KeepsPlace f) (hstate : (f r).state = r.state) :
    Handles x (x.modZone u z f) r (f r) := by
  obtain ⟨-, rfl, rfl⟩ := State.zone?_some hr
  have hleaves : ¬ Leaves r (f r) := fun h => h.2 (hstate.trans h.1)
  have hjoins : ¬ Joins r (f r) := fun h => h.1 (hstate.symm.trans h.2)
  refine ⟨moves_modZone x _ _ f fun q => place_eq_iff.mp (hf q), ?_, fun v => ?_, rfl, rfl, ?_⟩
  · rw [zoneSet_eq]
    exact zoneSet_congr (records_nodup hrecords) hr rfl
  · rw [if_neg hleaves, if_neg hjoins, List.append_nil, ite_self]
    rfl
  · rw [if_neg hjoins]
    rfl

/-- A record left as it is. -/
theorem handles_self : Handles x x r r := by
  have h := handles_modZone hrecords hr (f := id) (fun _ => rfl) rfl
  rwa [modZone_self (records_nodup hrecords) hr (f := id) rfl] at h

/-- A zone that enters IDLE, SETTLED or QUEUED from a key state other than UNKNOWN, and not QUEUED from QUEUED: nothing is
posted. -/
theorem handles_enter {k : KeyState} {g : ZoneRec → ZoneRec} (hk : k = .idle ∨ k = .settled ∨ k = .queued)
    (hunknown : r.state ≠ .unknown) (hq : k = .queued → r.state ≠ .queued) (hg : KeepsPlace g)
    (hstate : ∀ q, (g q).state = q.state) : Handles x (x.enter u z k none g) r (g (atRest k none r)) := by
  obtain ⟨hu, hu8⟩ := records_unit_of_zone? hrecords hr
  obtain ⟨-, rfl, rfl⟩ := State.zone?_some hr
  have hnew : (g (atRest k none r)).state = k := hstate _
  have hleaves : Leaves r (g (atRest k none r)) ↔ r.state = .queued := by
    rw [Leaves, hnew]
    exact ⟨And.left, fun h => ⟨h, fun e => hq e h⟩⟩
  have hjoins : Joins r (g (atRest k none r)) ↔ k = .queued := by
    rw [Joins, hnew]
    exact ⟨And.right, fun h => ⟨hq h, h⟩⟩
  have halerts : ¬ k.alerts = true := by
    obtain rfl | rfl | rfl := hk <;> decide
  refine ⟨moves_enter x _ _ _ _ _ fun q => place_eq_iff.mp (hg q), ?_, fun v => ?_, ?_, enter_preset hr _ _ _, ?_⟩
  · rw [enter_zones hr]
    exact zoneSet_congr (records_nodup hrecords) hr rfl
  · rw [enter_queue hr k none g hu hu8]
    simp only [hleaves, hjoins]
    by_cases hv : v = r.unit
    · rw [if_pos hv, if_pos hv, hv]
    · rw [if_neg hv, if_neg hv]
  · rw [enter_ports hr, postSurvey, if_neg fun h => hunknown h.1, postAlert, if_neg halerts]
  · simp only [hjoins]
    by_cases hkq : k = .queued
    · rw [if_pos hkq]
      subst hkq
      rw [enter_supply_queued hr none g hu hu8, if_neg (hq rfl)]
      rfl
    · rw [if_neg hkq, enter_supply_same hr k none g hkq]

end

/-! ### The operations of one zone -/

/-- An evaluation reads the tolerance and the sheet count alone. -/
theorem evaluated_congr {s x : State} (hlimits : x.limits = s.limits) (hsheets : x.press.sheets = s.press.sheets) (r : ZoneRec) :
    evaluated x r = evaluated s r := by
  unfold evaluated
  rw [hlimits, hsheets]

section
variable {s x : State} {u z : Nat} {r : ZoneRec} (hrecords : RecordsOk x) (hr : x.zone? u z = some r)
include hrecords hr

theorem handles_evaluate (hunknown : r.state ≠ .unknown) (hq : r.state ≠ .queued) :
    Handles x (x.evaluate u z) r (evaluated x r) := by
  cases ht : r.target with
  | none =>
    rw [evaluate_of_no_target hr ht, evaluated, ht]
    exact handles_enter hrecords hr (.inl rfl) hunknown nofun (fun _ => rfl) fun _ => rfl
  | some t =>
    cases hp : r.measured with
    | none =>
      have he : x.evaluate u z = x := by
        rw [evaluate_eq hr, ht, hp]
        rfl
      have hsame : evaluated x r = r := by rw [evaluated, ht, hp]
      rw [he, hsame]
      exact handles_self hrecords hr
    | some p =>
      by_cases hd : distance p t ≤ x.limits.tolerance
      · have hafter : evaluated x r = { atRest .settled none r with
            retries := 0, settleStamp := if r.state = .settled then r.settleStamp else some x.press.sheets } := by
          rw [evaluated, ht, hp]
          exact if_pos hd
        rw [evaluate_of_near hr hp ht hd, hafter]
        exact handles_enter hrecords hr (.inr (.inl rfl)) hunknown nofun (g := fun q => { q with
          retries := 0, settleStamp := if r.state = .settled then q.settleStamp else some x.press.sheets })
          (fun _ => rfl) fun _ => rfl
      · have hafter : evaluated x r = { atRest .queued none r with retries := 0 } := by
          rw [evaluated, ht, hp]
          exact if_neg hd
        rw [evaluate_of_far hr hp ht (not_le.mp hd), hafter]
        exact handles_enter hrecords hr (.inr (.inr rfl)) hunknown (fun _ => hq) (g := fun q => { q with retries := 0 })
          (fun _ => rfl) fun _ => rfl

theorem handles_requeue (hmoving : r.state = .moving) : Handles x (x.requeue u z) r (requeued r) := by
  have he : x.requeue u z = x.enter u z (if r.target.isNone then .idle else .queued) none id := by rw [State.requeue, hr]
  rw [he]
  refine handles_enter hrecords hr ?_ (by rw [hmoving]; decide) (fun _ => by rw [hmoving]; decide) (fun _ => rfl) fun _ => rfl
  split_ifs
  exacts [.inl rfl, .inr (.inr rfl)]

/-- One zone of a batch (R113 to R115). -/
theorem handles_retarget : Handles x (x.retarget u z) r (retargeted x r) := by
  unfold State.retarget
  rw [hr]
  dsimp only
  cases hs : r.state with
  | idle | settled | missed =>
    have he : retargeted x r = evaluated x r := by rw [retargeted, hs]
    rw [he]
    exact handles_evaluate hrecords hr (by rw [hs]; decide) (by rw [hs]; decide)
  | unknown | blocked | faulted | disabled =>
    have he : retargeted x r = r := by rw [retargeted, hs]
    rw [he]
    exact handles_self hrecords hr
  | moving =>
    have he : retargeted x r = { r with stale := true } := by rw [retargeted, hs]
    rw [he]
    exact handles_modZone hrecords hr (f := fun r => { r with stale := true }) (fun _ => rfl) rfl
  | queued =>
    have hunknown : r.state ≠ .unknown := by rw [hs]; decide
    cases ht : r.target with
    | none =>
      have he : retargeted x r = atRest .idle none r := by rw [retargeted, hs, ht]
      rw [he]
      exact handles_enter hrecords hr (g := id) (.inl rfl) hunknown nofun (fun _ => rfl) fun _ => rfl
    | some t =>
      cases hp : r.measured with
      | none =>
        have hw : x.within r = false := by rw [State.within, hp, ht]
        have he : retargeted x r = r := by rw [retargeted, hs, ht, hp]
        simp only [hw, he, Option.isNone_some, Bool.false_eq_true, if_false]
        exact handles_self hrecords hr
      | some p =>
        have he : retargeted x r = if distance p t ≤ x.limits.tolerance then
            { atRest .settled none r with settleStamp := some x.press.sheets } else r := by rw [retargeted, hs, ht, hp]
        simp only [he, within_eq hp ht, decide_eq_true_eq, Option.isNone_some, Bool.false_eq_true, if_false]
        split_ifs
        · exact handles_enter hrecords hr (g := fun r => { r with settleStamp := some x.press.sheets }) (.inr (.inl rfl)) hunknown
            nofun (fun _ => rfl) fun _ => rfl
        · exact handles_self hrecords hr

end

/-- A zone at the assertion of FREEZE and at a supply loss (R129, R161). -/
def frozen (s : State) (r : ZoneRec) : ZoneRec :=
  if r.state = .moving then
    if r.retryDue then (if r.stale then evaluated s r else requeued r)
    else { r with halts := { r.halts with freeze := true }, pollDue := none }
  else r

def lost (r : ZoneRec) : ZoneRec := if r.state = .moving then requeued r else r

section
variable {x : State} {u z : Nat} {r : ZoneRec} (hrecords : RecordsOk x) (hr : x.zone? u z = some r)
include hrecords hr

theorem handles_freezeZone : Handles x (x.freezeZone u z) r (frozen x r) := by
  unfold State.freezeZone frozen
  rw [hr]
  dsimp only
  split_ifs with hs hretry hstale
  · exact handles_evaluate hrecords hr (by rw [hs]; decide) (by rw [hs]; decide)
  · exact handles_requeue hrecords hr hs
  · exact handles_modZone hrecords hr (fun _ => rfl) rfl
  · exact handles_self hrecords hr

theorem handles_loseZone : Handles x (x.loseZone u z) r (lost r) := by
  unfold State.loseZone lost
  rw [hr]
  dsimp only
  split_ifs with hs
  · exact handles_requeue hrecords hr hs
  · exact handles_self hrecords hr

end

/-! ### Zones handled in order -/

/-- The zones with the records `zs` have been handled, each record `r` of them becoming `after r`. -/
structure Handled (s y : State) (zs : List ZoneRec) (after : ZoneRec → ZoneRec) : Prop where
  moves : Moves s y
  zones : y.zones = s.zones.map (fun r => if r ∈ zs then after r else r)
  queue : ∀ v, y.queue v =
    (s.queue v).filter (fun z => !zs.any (fun r => r.unit == v && r.zone == z && decide (Leaves r (after r)))) ++
      (zs.filter (fun r => r.unit == v && decide (Joins r (after r)))).map ZoneRec.zone
  ports : y.ports = s.ports
  preset : y.preset = s.preset
  supply_same : (∀ r ∈ zs, ¬ Joins r (after r)) → y.supply = s.supply
  standby_none : (∃ r ∈ zs, Joins r (after r)) → y.supply.standby = none
  supply_running : s.supply.state ≠ .off → y.supply.state = s.supply.state ∧ y.supply.warmUp = s.supply.warmUp
  supply_started : s.supply.state = .off → (∀ v, s.queue v = []) → (∃ r ∈ zs, Joins r (after r)) →
    y.supply.state = (if s.supply.ok.filtered then .on else .warming) ∧
      y.supply.warmUp = if s.supply.ok.filtered then none else some s.clock.now.ms

theorem handled_nil (s : State) (after : ZoneRec → ZoneRec) : Handled s s [] after := by
  refine ⟨.refl s, ?_, fun v => ?_, rfl, rfl, fun _ => rfl, ?_, fun _ => ⟨rfl, rfl⟩, ?_⟩
  · simp
  · simp
  · rintro ⟨r, hr, -⟩
    cases hr
  · rintro - - ⟨r, hr, -⟩
    cases hr

theorem supplyJoined_standby (p : Supply) (queue : List Nat) (now : BitVec 32) : (supplyJoined p queue now).standby = none := by
  unfold supplyJoined
  split_ifs <;> rfl

theorem supplyJoined_of_running {p : Supply} (h : p.state ≠ .off) (queue : List Nat) (now : BitVec 32) :
    supplyJoined p queue now = { p with standby := none } :=
  if_neg fun e => h e.1

theorem supplyJoined_of_off {p : Supply} (h : p.state = .off) (now : BitVec 32) :
    (supplyJoined p [] now).state = (if p.ok.filtered then .on else .warming) ∧
      (supplyJoined p [] now).warmUp = if p.ok.filtered then none else some now := by
  rw [supplyJoined, if_pos ⟨h, rfl⟩]
  split_ifs <;> exact ⟨rfl, rfl⟩

section
variable {s x y : State} {zs : List ZoneRec} {after : ZoneRec → ZoneRec} {a : ZoneRec}

/-- The next zone is handled. -/
theorem Handled.snoc (h : Handled s x zs after) (ha : Handles x y a (after a)) (hplaces : (s.zones.map place).Nodup)
    (hkeep : ∀ r, place (after r) = place r) (hsub : ∀ r ∈ zs, r ∈ s.zones) (has : a ∈ s.zones) (hfresh : a ∉ zs) :
    Handled s y (zs ++ [a]) after := by
  have hother : ∀ r ∈ zs, place r ≠ place a := fun r hr e => hfresh (eq_of_place_eq hplaces (hsub r hr) has e ▸ hr)
  refine ⟨h.moves.trans ha.moves, ?_, fun v => ?_, ha.ports.trans h.ports, ha.preset.trans h.preset, fun hno => ?_,
    fun hsome => ?_, fun hon => ?_, fun hoff hempty hsome => ?_⟩
  · rw [ha.zones, zoneSet, h.zones, List.map_map]
    refine List.map_congr_left fun r hr => ?_
    have hplace : place (if r ∈ zs then after r else r) = place r := by
      split_ifs
      exacts [hkeep r, rfl]
    rw [Function.comp_apply]
    by_cases hra : r = a
    · subst hra
      rw [if_pos (place_eq_iff.mp hplace), if_pos (by simp)]
    · have hne : ¬ place r = place a := fun e => hra (eq_of_place_eq hplaces hr has e)
      rw [if_neg fun e => hne (hplace.symm.trans (place_eq_iff.mpr e))]
      simp [hra]
  · rw [ha.queue, h.queue]
    by_cases hv : v = a.unit
    · subst hv
      have hjoined : ((zs.filter (fun r => r.unit == a.unit && decide (Joins r (after r)))).map ZoneRec.zone).filter
          (fun z => z != a.zone) = (zs.filter (fun r => r.unit == a.unit && decide (Joins r (after r)))).map ZoneRec.zone := by
        refine List.filter_eq_self.mpr fun z hz => ?_
        obtain ⟨r, hr, rfl⟩ := List.mem_map.mp hz
        obtain ⟨hrz, hru⟩ := List.mem_filter.mp hr
        rw [Bool.and_eq_true, beq_iff_eq] at hru
        exact bne_iff_ne.mpr fun e => hother r hrz (place_eq_iff.mpr ⟨hru.1, e⟩)
      rw [if_pos rfl, List.filter_append zs, List.map_append, ← List.append_assoc]
      congr 1
      · split_ifs with hleaves
        · rw [List.filter_append, hjoined, List.filter_filter]
          congr 1
          refine List.filter_congr fun z _ => ?_
          rw [List.any_append, List.any_cons, List.any_nil, Bool.or_false, beq_self_eq_true, Bool.true_and,
            decide_eq_true hleaves, Bool.and_true, Bool.not_or, Bool.and_comm, BEq.comm (a := a.zone)]
          rfl
        · congr 1
          refine List.filter_congr fun z _ => ?_
          rw [List.any_append, List.any_cons, List.any_nil, Bool.or_false, decide_eq_false hleaves, Bool.and_false, Bool.or_false]
      · by_cases hjoins : Joins a (after a)
        · rw [if_pos hjoins, List.filter_cons, if_pos (by simp [hjoins]), List.filter_nil]
          rfl
        · rw [if_neg hjoins, List.filter_cons, if_neg (by simp [hjoins]), List.filter_nil]
          rfl
    · have hav : (a.unit == v) = false := beq_eq_false_iff_ne.mpr fun e => hv e.symm
      simp only [if_neg hv, List.any_append, List.any_cons, List.any_nil, hav, Bool.false_and, Bool.or_false,
        List.filter_append, List.filter_cons, List.filter_nil, Bool.false_eq_true, if_false, List.append_nil]
  · rw [ha.supply, if_neg (hno a (by simp)), h.supply_same fun r hr => hno r (by simp [hr])]
  · rw [ha.supply]
    split_ifs with hjoins
    · exact supplyJoined_standby _ _ _
    · obtain ⟨r, hr, hrj⟩ := hsome
      rcases List.mem_append.mp hr with hr | hr
      · exact h.standby_none ⟨r, hr, hrj⟩
      · obtain rfl := List.mem_singleton.mp hr
        exact absurd hrj hjoins
  · obtain ⟨hstate, hwarm⟩ := h.supply_running hon
    rw [ha.supply]
    split_ifs
    · rw [supplyJoined_of_running (by rw [hstate]; exact hon)]
      exact ⟨hstate, hwarm⟩
    · exact ⟨hstate, hwarm⟩
  · have hok : x.supply.ok = s.supply.ok := h.moves.ok
    by_cases hbefore : ∃ r ∈ zs, Joins r (after r)
    · obtain ⟨hstate, hwarm⟩ := h.supply_started hoff hempty hbefore
      have hon : x.supply.state ≠ .off := by
        rw [hstate]
        split_ifs <;> decide
      rw [ha.supply]
      by_cases hjoins : Joins a (after a)
      · rw [if_pos hjoins, supplyJoined_of_running hon]
        exact ⟨hstate, hwarm⟩
      · rw [if_neg hjoins]
        exact ⟨hstate, hwarm⟩
    · have hnone : ∀ r ∈ zs, ¬ Joins r (after r) := fun r hr hj => hbefore ⟨r, hr, hj⟩
      have hsupply := h.supply_same hnone
      have hqueue : x.queue a.unit = [] := by
        rw [h.queue, hempty, List.filter_nil, List.nil_append, List.filter_eq_nil_iff.mpr, List.map_nil]
        intro r hr
        simp [hnone r hr]
      have hjoins : Joins a (after a) := by
        obtain ⟨r, hr, hrj⟩ := hsome
        rcases List.mem_append.mp hr with hr | hr
        · exact absurd hrj (hnone r hr)
        · obtain rfl := List.mem_singleton.mp hr
          exact hrj
      rw [ha.supply, if_pos hjoins, hqueue, hsupply, h.moves.clock]
      exact supplyJoined_of_off hoff _

/-- The zones of a list of records of the table, each once, are handled one by one. -/
theorem handled_foldl {f : State → Nat × Nat → State} (hrecords : RecordsOk s) (hkeep : ∀ r, place (after r) = place r)
    (hone : ∀ x r, Moves s x → RecordsOk x → x.zone? r.unit r.zone = some r → Handles x (f x (place r)) r (after r))
    (hsub : zs.Sublist s.zones) : Handled s ((zs.map place).foldl f s) zs after := by
  have hplaces := records_nodup hrecords
  have hall : ∀ zs : List ZoneRec, zs.Nodup → (∀ r ∈ zs, r ∈ s.zones) → Handled s ((zs.map place).foldl f s) zs after := by
    intro zs
    induction zs using List.reverseRecOn with
    | nil => exact fun _ _ => handled_nil s after
    | append_singleton zs a ih =>
      intro hnodup hmem
      have hfresh : a ∉ zs := fun h => (List.nodup_append.mp hnodup).2.2 a h a (by simp) rfl
      have hbefore := ih (List.nodup_append.mp hnodup).1 fun r hr => hmem r (by simp [hr])
      have has : a ∈ s.zones := hmem a (by simp)
      rw [List.map_append, List.foldl_append]
      refine hbefore.snoc (hone _ a hbefore.moves (turns_records hbefore.moves.turns hrecords) ?_) hplaces hkeep
        (fun r hr => hmem r (by simp [hr])) has hfresh
      refine (zone?_eq_some_iff ?_).mpr ⟨?_, rfl, rfl⟩
      · exact records_nodup (turns_records hbefore.moves.turns hrecords)
      · rw [hbefore.zones]
        exact List.mem_map.mpr ⟨a, has, if_neg hfresh⟩
  exact hall zs ((List.Nodup.of_map place hplaces).sublist hsub) fun r hr => hsub.subset hr

end

/-! ### The tests that follow -/

section
variable {s y : State} {zs : List ZoneRec} {after : ZoneRec → ZoneRec}

/-- A zone that has joined its queue stands in it. -/
theorem Handled.mem_queue (h : Handled s y zs after) {r : ZoneRec} (hr : r ∈ zs) (hj : Joins r (after r)) :
    r.zone ∈ y.queue r.unit := by
  rw [h.queue]
  refine List.mem_append.mpr (.inr (List.mem_map.mpr ⟨r, List.mem_filter.mpr ⟨hr, ?_⟩, rfl⟩))
  simp [hj]

/-- The standby timer after the zones are handled and the tests have run (R160). -/
theorem Handled.standbyFollows (h : Handled s y zs after) : StandbyFollows s y.settle (∃ r ∈ zs, Joins r (after r)) := by
  obtain ⟨-, hstandby⟩ := settle_supply_eq y
  have hlimits : y.limits = s.limits := h.moves.turns.limits
  have hclock : y.clock = s.clock := h.moves.clock
  refine ⟨fun ⟨r, hr, hj⟩ => ?_, fun hno hstarts => ?_, fun hno hnot => ?_⟩
  · rw [hstandby, if_neg, h.standby_none ⟨r, hr, hj⟩]
    rintro ⟨hcond, -⟩
    obtain ⟨-, hempty, -⟩ := (standbyCondition_iff_queue y).mp hcond
    have hmem := h.mem_queue hr hj
    rw [hempty] at hmem
    cases hmem
  · have hsupply := h.supply_same fun r hr hj => hno ⟨r, hr, hj⟩
    obtain ⟨hon, hqueues, hmoving, hnone, hset⟩ := hstarts
    rw [settle_supply_state] at hon
    rw [settle_queues] at hqueues
    rw [settle_zones] at hmoving
    rw [hstandby, if_pos ⟨(standbyCondition_iff y).mpr ⟨hon, hqueues, hmoving⟩, by rw [hsupply]; exact hnone, by
      rw [hlimits]; exact hset⟩, hclock, hlimits]
  · have hsupply := h.supply_same fun r hr hj => hno ⟨r, hr, hj⟩
    rw [hstandby, if_neg, hsupply]
    rintro ⟨hcond, hnone, hset⟩
    obtain ⟨hon, hqueues, hmoving⟩ := (standbyCondition_iff y).mp hcond
    refine hnot ⟨?_, ?_, ?_, ?_, ?_⟩
    · rw [settle_supply_state]
      exact hon
    · rw [settle_queues]
      exact hqueues
    · rw [settle_zones]
      exact hmoving
    · rw [← hsupply]
      exact hnone
    · rw [← hlimits]
      exact hset

end

theorem mem_noticePorts_presetDone {p : Port} : p ∈ noticePorts .presetDone ↔ p ≠ .job := by
  cases p <;> decide

/-- The preset flag and the notice sets after the tests of an event (R51). -/
theorem settle_of_over {s : State} (h : s.preset = true ∧ presetOver s.zones) :
    s.settle.preset = false ∧ ∀ p, (s.settle.port p).notices = (s.port p).notices ||| (if p = .job then 0 else 8) := by
  have he : s.settle = { s.standbyRefresh.post .presetDone with preset := false } :=
    presetTest_of_over (by rw [State.standbyRefresh_preset, State.standbyRefresh_zones]; exact h)
  rw [he]
  refine ⟨rfl, fun p => ?_⟩
  have hport : s.standbyRefresh.port p = s.port p := congrArg (Ports.get · p) s.standbyRefresh_ports
  change ((s.standbyRefresh.post .presetDone).port p).notices = _
  rw [State.post_port, hport]
  by_cases hp : p = .job
  · rw [if_neg fun e => mem_noticePorts_presetDone.mp e hp, if_pos hp]
    exact BitVec.or_zero.symm
  · rw [if_pos (mem_noticePorts_presetDone.mpr hp), if_neg hp]
    rfl

theorem settle_of_not_over {s : State} (h : ¬ (s.preset = true ∧ presetOver s.zones)) :
    s.settle.preset = s.preset ∧ ∀ p, (s.settle.port p).notices = (s.port p).notices := by
  have he : s.settle = s.standbyRefresh :=
    presetTest_of_not_over (by rwa [State.standbyRefresh_preset, State.standbyRefresh_zones])
  rw [he]
  exact ⟨s.standbyRefresh_preset, fun p => congrArg (fun ps => (Ports.get ps p).notices) s.standbyRefresh_ports⟩

theorem settle_warmUp (s : State) : s.settle.supply.warmUp = s.supply.warmUp := by rw [(settle_supply_eq s).1]

theorem Handled.port {s y : State} {zs : List ZoneRec} {after : ZoneRec → ZoneRec} (h : Handled s y zs after) (p : Port) :
    y.port p = s.port p :=
  congrArg (Ports.get · p) h.ports

/-! ### Batches -/

theorem evaluated_place (s : State) (r : ZoneRec) : place (evaluated s r) = place r := by
  unfold evaluated
  split
  · rfl
  · rfl
  · split_ifs <;> rfl

theorem retargeted_place (s : State) (r : ZoneRec) : place (retargeted s r) = place r := by
  unfold retargeted
  cases r.state with
  | idle | settled | missed => exact evaluated_place s r
  | queued =>
    dsimp only
    split
    · rfl
    · rfl
    · split_ifs <;> rfl
  | moving | unknown | blocked | faulted | disabled => rfl

theorem retargeted_congr {s x : State} (hlimits : x.limits = s.limits) (hsheets : x.press.sheets = s.press.sheets) (r : ZoneRec) :
    retargeted x r = retargeted s r := by
  unfold retargeted
  rw [evaluated_congr hlimits hsheets, hlimits, hsheets]

/-- The records of a list that contains those of a sublist of it, each once, are those of the sublist. -/
theorem filter_mem_of_sublist {α : Type} [DecidableEq α] {l m : List α} (h : l.Sublist m) (hm : m.Nodup) (p : α → Bool) :
    m.filter (fun a => p a && decide (a ∈ l)) = l.filter p := by
  induction h with
  | slnil => rfl
  | @cons l m a h ih =>
    obtain ⟨ha, hm⟩ := List.nodup_cons.mp hm
    have hal : a ∉ l := fun e => ha (h.subset e)
    rw [List.filter_cons, if_neg (by simp [hal]), ih hm]
  | @cons_cons l m a h ih =>
    obtain ⟨ha, hm⟩ := List.nodup_cons.mp hm
    have htail : m.filter (fun b => p b && decide (b ∈ a :: l)) = m.filter (fun b => p b && decide (b ∈ l)) :=
      List.filter_congr fun b hb => by
        have hne : b ≠ a := fun e => ha (e ▸ hb)
        simp [hne]
    rw [List.filter_cons, List.filter_cons, htail, ih hm]
    simp

section
variable {s y : State} {zs : List ZoneRec} {after after' : ZoneRec → ZoneRec}

/-- The zones that join a unit's queue, in the words of the statements. -/
theorem joiners_eq (hzones : s.zones.Nodup) (hsub : zs.Sublist s.zones)
    (hafter : ∀ r ∈ s.zones, after' r = if r ∈ zs then after r else r) (u : Nat) :
    joiners s after' u = (zs.filter (fun r => r.unit == u && decide (Joins r (after r)))).map ZoneRec.zone := by
  rw [joiners, ← filter_mem_of_sublist hsub hzones]
  refine congrArg (List.map ZoneRec.zone) (List.filter_congr fun r hr => ?_)
  rw [hafter r hr]
  by_cases hz : r ∈ zs
  · rw [if_pos hz, decide_eq_true hz, Bool.and_true, Bool.and_assoc]
    congr 1
    rw [Bool.eq_iff_iff]
    simp
  · rw [if_neg hz, decide_eq_false hz, Bool.and_false]
    cases r.state <;> simp

theorem someJoins_iff (hsub : zs.Sublist s.zones) (hafter : ∀ r ∈ s.zones, after' r = if r ∈ zs then after r else r) :
    someJoins s after' ↔ ∃ r ∈ zs, Joins r (after r) := by
  constructor
  · rintro ⟨r, hr, hq, hnew⟩
    rw [hafter r hr] at hnew
    split_ifs at hnew with hz
    · exact ⟨r, hz, hq, hnew⟩
    · exact absurd hnew hq
  · rintro ⟨r, hr, hq, hnew⟩
    refine ⟨r, hsub.subset hr, hq, ?_⟩
    rw [hafter r (hsub.subset hr), if_pos hr]
    exact hnew

/-- The zones that stay in a queue after the zones are handled are those whose records are still QUEUED. -/
theorem Handled.queue_filter (h : Handled s y zs after) (hrecords : RecordsOk s) (hqueues : QueuesOk s)
    (hkeep : ∀ r, place (after r) = place r) (hsub : zs.Sublist s.zones) {u z : Nat} (hz : z ∈ s.queue u) :
    (!zs.any (fun r => r.unit == u && r.zone == z && decide (Leaves r (after r)))) =
      (y.zone? u z).any (fun r => r.state == .queued) := by
  have hu8 : u ≤ 8 := by
    by_contra hu
    have hnil : s.queue u = [] := at1_outside s.queues [] (by omega)
    rw [hnil] at hz
    cases hz
  obtain ⟨q, hq⟩ := Option.isSome_iff_exists.mp ((hqueues.2 u (mem_range9 hu8)).2 z hz)
  obtain ⟨hmem, rfl, rfl⟩ := State.zone?_some hq
  have hstate : q.state = .queued := (hqueues.1 q hmem).mp hz
  have hnew : y.zone? q.unit q.zone = some (if q ∈ zs then after q else q) := by
    refine (zone?_eq_some_iff (records_nodup (turns_records h.moves.turns hrecords))).mpr ⟨?_, place_eq_iff.mp ?_⟩
    · rw [h.zones]
      exact List.mem_map.mpr ⟨q, hmem, rfl⟩
    · split_ifs
      exacts [hkeep q, rfl]
  have hany : zs.any (fun r => r.unit == q.unit && r.zone == q.zone && decide (Leaves r (after r))) = true ↔
      q ∈ zs ∧ (after q).state ≠ .queued := by
    rw [List.any_eq_true]
    constructor
    · rintro ⟨r, hr, hp⟩
      rw [Bool.and_eq_true, Bool.and_eq_true, beq_iff_eq, beq_iff_eq, decide_eq_true_eq] at hp
      obtain rfl : r = q := eq_of_place_eq (records_nodup hrecords) (hsub.subset hr) hmem (place_eq_iff.mpr hp.1)
      exact ⟨hr, hp.2.2⟩
    · rintro ⟨hr, hn⟩
      exact ⟨q, hr, by simp [hstate, hn]⟩
  rw [hnew, Option.any_some, Bool.eq_iff_iff, Bool.not_eq_true', beq_iff_eq, ← Bool.not_eq_true, hany]
  split_ifs with hzs
  · rw [not_and_not_right]
    exact ⟨fun e => e hzs, fun e _ => e⟩
  · exact iff_of_true (fun e => hzs e.1) hstate

/-- Nothing left, the queues of zones that never leave them grow at their tails. -/
theorem Handled.queue_of_no_leaves (h : Handled s y zs after) (hno : ∀ r, ¬ Leaves r (after r)) (u : Nat) :
    y.queue u = s.queue u ++ (zs.filter (fun r => r.unit == u && decide (Joins r (after r)))).map ZoneRec.zone := by
  rw [h.queue]
  congr 1
  refine List.filter_eq_self.mpr fun z _ => ?_
  simp [hno]

end

/-- Settles O42: a batch is the zones of a sublist of the table handled one by one, and the tests that follow. -/
theorem batchIsHandledZoneByZone : Obligations.BatchIsHandledZoneByZone := by
  intro s batch hrecords hqueues hsub t after
  obtain ⟨zs, hzs, rfl⟩ := List.sublist_map_iff.mp hsub
  have hnodup := records_nodup hrecords
  have hzones : s.zones.Nodup := List.Nodup.of_map place hnodup
  have hhandled : Handled s ((zs.map place).foldl (fun t q => t.retarget q.1 q.2) s) zs (retargeted s) := by
    refine handled_foldl hrecords (retargeted_place s) (fun x r hx hxr hr => ?_) hzs
    have he : retargeted x r = retargeted s r := retargeted_congr hx.turns.limits (by rw [hx.turns.press]) r
    exact he ▸ handles_retarget hxr hr
  have ht : t = ((zs.map place).foldl (fun t q => t.retarget q.1 q.2) s).settle := rfl
  have hafter : ∀ r ∈ s.zones, after r = if r ∈ zs then retargeted s r else r := by
    intro r hr
    have hmem : (r.unit, r.zone) ∈ zs.map (fun r => (r.unit, r.zone)) ↔ r ∈ zs := by
      refine ⟨fun h => ?_, fun h => List.mem_map.mpr ⟨r, h, rfl⟩⟩
      obtain ⟨q, hq, hqr⟩ := List.mem_map.mp h
      exact eq_of_place_eq hnodup (hzs.subset hq) hr hqr ▸ hq
    simp only [after, hmem]
  have hjoins := someJoins_iff hzs hafter
  have hport := hhandled.port
  have hzonesAfter : ((zs.map place).foldl (fun t q => t.retarget q.1 q.2) s).zones = s.zones.map after :=
    hhandled.zones.trans (List.map_congr_left fun r hr => (hafter r hr).symm)
  rw [ht]
  refine ⟨onlyScheduler_of_moves (hhandled.moves.trans (moves_settle _)), ?_, fun u => ?_, ?_, fun hon => ?_,
      fun hoff hempty => ?_,
    fun hpreset hover => ?_, fun hnot => ?_⟩
  · rw [settle_zones, hzonesAfter]
  · rw [settle_queue, hhandled.queue, joiners_eq hzones hzs hafter]
    congr 1
    refine List.filter_congr fun z hz => ?_
    rw [hhandled.queue_filter hrecords hqueues (retargeted_place s) hzs hz, settle_zone?]
  · have hfollows := hhandled.standbyFollows
    rwa [← hjoins] at hfollows
  · obtain ⟨hstate, hwarm⟩ := hhandled.supply_running hon
    rw [settle_supply_state, settle_warmUp]
    exact ⟨hstate, hwarm⟩
  · have hnone : ∀ r ∈ s.zones, r.state ≠ .queued := fun r hr hq => by
      have hmem := (hqueues.1 r hr).mpr hq
      rw [(queues_nil_iff s).mp hempty] at hmem
      cases hmem
    have hsome : (∃ r ∈ zs, Joins r (retargeted s r)) ↔ ∃ r ∈ s.zones.map after, r.state = .queued := by
      rw [← hjoins]
      constructor
      · rintro ⟨r, hr, -, hq⟩
        exact ⟨after r, List.mem_map.mpr ⟨r, hr, rfl⟩, hq⟩
      · rintro ⟨r', hr', hq⟩
        obtain ⟨r, hr, rfl⟩ := List.mem_map.mp hr'
        exact ⟨r, hr, hnone r hr, hq⟩
    rw [settle_supply_state, settle_warmUp, settle_zones, hzonesAfter]
    refine ⟨fun hno => ?_, fun hqueued => ?_⟩
    · have hsupply := hhandled.supply_same fun r hr hj => by
        obtain ⟨r', hr', hq⟩ := hsome.mp ⟨r, hr, hj⟩
        exact hno r' hr' hq
      rw [hsupply]
      exact ⟨hoff, rfl⟩
    · exact hhandled.supply_started hoff ((queues_nil_iff s).mp hempty) (hsome.mpr hqueued)
  · rw [settle_zones] at hover
    obtain ⟨hflag, hnotices⟩ := settle_of_over ⟨hhandled.preset.trans hpreset, hover⟩
    refine ⟨hflag, fun p => (hnotices p).trans ?_⟩
    rw [hport]
    split_ifs
    exacts [BitVec.or_zero, rfl]
  · rw [settle_zones, ← hhandled.preset] at hnot
    obtain ⟨hflag, hnotices⟩ := settle_of_not_over hnot
    exact ⟨hflag.trans hhandled.preset, fun p => (hnotices p).trans (by rw [hport])⟩

end Sys2Proof.Claims
end

section
/-! PROOF. The assertion of FREEZE and the moves of the supply state (R129, R157 to R161, R171). -/

namespace Sys2Proof.Claims

open Sys2Proof.Machine Sys2Proof.Safety

/-! ### MOVING zones resolved -/

theorem requeued_place (r : ZoneRec) : place (requeued r) = place r := by
  rfl

theorem frozen_place (s : State) (r : ZoneRec) : place (frozen s r) = place r := by
  unfold frozen
  split_ifs
  exacts [evaluated_place s r, rfl, rfl, rfl]

theorem lost_place (r : ZoneRec) : place (lost r) = place r := by
  unfold lost
  split_ifs <;> rfl

theorem frozen_congr {s x : State} (hlimits : x.limits = s.limits) (hsheets : x.press.sheets = s.press.sheets) (r : ZoneRec) :
    frozen x r = frozen s r := by
  rw [frozen, frozen, evaluated_congr hlimits hsheets]

theorem frozen_of_not_moving (s : State) {r : ZoneRec} (h : r.state ≠ .moving) : frozen s r = r := if_neg h
theorem lost_of_not_moving {r : ZoneRec} (h : r.state ≠ .moving) : lost r = r := if_neg h

/-- A zone that is not MOVING is left as it is, so no zone leaves a queue. -/
theorem not_leaves_of_moving_only {after : ZoneRec → ZoneRec} (h : ∀ r, r.state ≠ .moving → after r = r) (r : ZoneRec) :
    ¬ Leaves r (after r) := by
  rintro ⟨hq, hn⟩
  rw [h r (by rw [hq]; decide)] at hn
  exact hn hq

/-- A zone joins a queue from MOVING alone. -/
theorem moving_of_joins {after : ZoneRec → ZoneRec} (h : ∀ r, r.state ≠ .moving → after r = r) {r : ZoneRec}
    (hj : Joins r (after r)) : r.state = .moving := by
  by_contra hm
  rw [h r hm] at hj
  exact hj.1 hj.2

section
variable {s : State} (hrecords : RecordsOk s)
include hrecords

theorem handled_freeze :
    Handled s (s.zoneIds.foldl (fun t q => t.freezeZone q.1 q.2) s) s.zones (frozen s) := by
  refine handled_foldl hrecords (frozen_place s) (fun x r hx hxr hr => ?_) (List.Sublist.refl _)
  have he : frozen x r = frozen s r := frozen_congr hx.turns.limits (by rw [hx.turns.press]) r
  exact he ▸ handles_freezeZone hxr hr

theorem handled_loss : Handled s (s.zoneIds.foldl (fun t q => t.loseZone q.1 q.2) s) s.zones lost :=
  handled_foldl hrecords lost_place (fun _ _ _ hxr hr => handles_loseZone hxr hr) (List.Sublist.refl _)

end

section
variable {s y : State} {after : ZoneRec → ZoneRec}

/-- Every record of the table handled. -/
theorem Handled.zones_all (h : Handled s y s.zones after) : y.zones = s.zones.map after := by
  rw [h.zones]
  exact List.map_congr_left fun r hr => if_pos hr

theorem Handled.queue_all (h : Handled s y s.zones after) (hrecords : RecordsOk s)
    (hmoving : ∀ r, r.state ≠ .moving → after r = r) (u : Nat) : y.queue u = s.queue u ++ joiners s after u := by
  rw [h.queue_of_no_leaves (not_leaves_of_moving_only hmoving), joiners_eq (after := after)
    (List.Nodup.of_map place (records_nodup hrecords)) (List.Sublist.refl _) fun r hr => (if_pos hr).symm]

/-- The supply keeps state, level and warm-up limit where zones join queues while it is not OFF alone. -/
theorem Handled.supply_all (h : Handled s y s.zones after) (hon : (∃ r ∈ s.zones, Joins r (after r)) → s.supply.state ≠ .off) :
    y.supply = { s.supply with standby := y.supply.standby } := by
  by_cases hsome : ∃ r ∈ s.zones, Joins r (after r)
  · obtain ⟨hstate, hwarm⟩ := h.supply_running (hon hsome)
    have hok := h.moves.ok
    cases hy : y.supply with
    | mk state warmUp standby ok =>
      rw [hy] at hstate hwarm hok
      obtain rfl : state = _ := hstate
      obtain rfl : warmUp = _ := hwarm
      obtain rfl : ok = _ := hok
      rfl
  · rw [h.supply_same fun r hr hj => hsome ⟨r, hr, hj⟩]

end

/-! ### Notices of an event -/

theorem mem_noticePorts_freezeChange {p : Port} : p ∈ noticePorts .freezeChange ↔ p ≠ .job := by
  cases p <;> decide

theorem mem_noticePorts_supplyAlert {p : Port} : p ∈ noticePorts .supplyAlert ↔ p = .console := by
  cases p <;> decide

theorem freezeChange_notices (s : State) (p : Port) :
    ((s.post .freezeChange).port p).notices = (s.port p).notices ||| (if p = .job then 0 else 128) := by
  rw [State.post_port]
  by_cases hp : p = .job
  · rw [if_neg fun e => mem_noticePorts_freezeChange.mp e hp, if_pos hp]
    exact BitVec.or_zero.symm
  · rw [if_pos (mem_noticePorts_freezeChange.mpr hp), if_neg hp]
    rfl

theorem supplyAlert_notices (s : State) (p : Port) :
    ((s.post .supplyAlert).port p).notices = (s.port p).notices ||| (if p = .console then 64 else 0) := by
  rw [State.post_port]
  by_cases hp : p = .console
  · rw [if_pos (mem_noticePorts_supplyAlert.mpr hp), if_pos hp]
    rfl
  · rw [if_neg fun e => hp (mem_noticePorts_supplyAlert.mp e), if_neg hp]
    exact BitVec.or_zero.symm

/-- The tests of an event before or after a posting (R51). -/
theorem presetFollows_of_settle {s x t : State} {posted : Port → BitVec 8} (hpreset : x.preset = s.preset)
    (hnotices : ∀ p, (x.port p).notices = (s.port p).notices) (hflag : t.preset = x.settle.preset) (hzones : t.zones = x.zones)
    (hposted : ∀ p, (t.port p).notices = (x.settle.port p).notices ||| posted p) : PresetFollows s t posted := by
  refine ⟨fun hset hover => ?_, fun hnot => ?_⟩
  · rw [hzones] at hover
    obtain ⟨hclear, hports⟩ := settle_of_over ⟨hpreset.trans hset, hover⟩
    refine ⟨hflag.trans hclear, fun p => ?_⟩
    rw [hposted, hports, hnotices, BitVec.or_assoc, BitVec.or_assoc, BitVec.or_comm (posted p)]
  · rw [hzones, ← hpreset] at hnot
    obtain ⟨hkeep, hports⟩ := settle_of_not_over hnot
    exact ⟨hflag.trans (hkeep.trans hpreset), fun p => by rw [hposted, hports, hnotices]⟩

/-- Settles O53: the release posts alone; the assertion handles every MOVING zone in the order of the table. -/
theorem freezeHaltsEveryMovingZone : Obligations.FreezeHaltsEveryMovingZone := by
  intro s hrun taken
  have hexec : ∀ {level : Bool}, changeDue s s.press.freeze level →
      exec (.pressLevelFilterExpiry .freeze) s = .next ((taken level).levelTaken .freeze) := fun hdue =>
    exec_pressLevelFilterExpiry_due (w := .freeze) hrun hdue
  refine ⟨hexec, ?_⟩
  intro hsched hdue after
  obtain ⟨hrecords, -, -, ⟨-, hsupplied⟩, -⟩ := hsched
  have hhandled := handled_freeze (s := taken true) hrecords
  set y := (taken true).zoneIds.foldl (fun t q => t.freezeZone q.1 q.2) (taken true)
  have hmoving : ∀ r, r.state ≠ .moving → frozen (taken true) r = r := fun r => frozen_of_not_moving (taken true)
  refine ⟨y.settle.post .freezeChange, hexec hdue, ?_, ?_, fun u => ?_, ?_, ?_, ?_⟩
  · exact onlyScheduler_of_moves ((hhandled.moves.trans (moves_settle y)).trans (moves_post _ _))
  · exact (settle_zones y).trans hhandled.zones_all
  · exact (settle_queue y u).trans (hhandled.queue_all hrecords hmoving u)
  · have hsupply : y.supply = { s.supply with standby := y.supply.standby } := hhandled.supply_all fun ⟨r, hr, hj⟩ hoff => by
      have hon := hsupplied r hr (moving_of_joins hmoving hj)
      rw [show s.supply.state = .off from hoff] at hon
      cases hon
    exact (settle_supply_eq y).1.trans (by rw [hsupply]; rfl)
  · exact hhandled.standbyFollows
  · exact presetFollows_of_settle (x := y) hhandled.preset (fun p => congrArg PortCtl.notices (hhandled.port p)) rfl
      (settle_zones y) fun p => freezeChange_notices _ p

/-! ### The moves of the supply state -/

/-- A supply loss, in the order of the table (R161). -/
theorem supplyLoss_eq (s : State) :
    s.supplyLoss =
      ((s.zoneIds.foldl (fun (t : State) q => t.loseZone q.1 q.2)
        ({ s with supply := { s.supply with state := .failed, warmUp := none, standby := none } })).post .supplyAlert).settle := by
  rfl

theorem supplyOkTaken_warming {s : State} (hw : s.supply.state = .warming) (hok : s.supply.ok.filtered = true) :
    s.supplyOkTaken = ({ s with supply := { s.supply with state := .on, warmUp := none } } : State).settle := by
  rw [State.supplyOkTaken, hw, hok]

theorem supplyOkTaken_on {s : State} (hon : s.supply.state = .on) (hok : s.supply.ok.filtered = false) :
    s.supplyOkTaken = s.supplyLoss := by
  rw [State.supplyOkTaken, hon, hok]

theorem supplyOkTaken_other {s : State} (hw : ¬ (s.supply.ok.filtered = true ∧ s.supply.state = .warming))
    (hon : ¬ (s.supply.ok.filtered = false ∧ s.supply.state = .on)) : s.supplyOkTaken = s := by
  unfold State.supplyOkTaken
  split
  · next h1 h2 => exact absurd ⟨h2, h1⟩ hw
  · next h1 h2 => exact absurd ⟨h2, h1⟩ hon
  all_goals rfl

theorem lost_state (r : ZoneRec) : (lost r).state ≠ .moving := by
  unfold lost
  split_ifs with hm
  · rw [requeued]
    split_ifs <;> exact nofun
  · exact hm

theorem supply_ext {p : Supply} {state : SupplyState} {warmUp : Option (BitVec 32)} {standby : Option Standby} {ok : Level}
    (h1 : p.state = state) (h2 : p.warmUp = warmUp) (h3 : p.standby = standby) (h4 : p.ok = ok) :
    p = ⟨state, warmUp, standby, ok⟩ := by
  subst h1 h2 h3 h4
  rfl

section
variable {s : State}

/-- The warm-up limit by its age (R159). -/
theorem warmUpExpired_of_warming {w : BitVec 32} (hs : s.supply.state = .warming) (hw : s.supply.warmUp = some w) :
    s.warmUpExpired = decide (2000 ≤ (s.clock.now.ms - w).toNat) := by
  rw [State.warmUpExpired, hs, hw]
  rfl

theorem warmUpExpired_of_other (hs : s.supply.state ≠ .warming) : s.warmUpExpired = false := by
  rw [State.warmUpExpired, beq_eq_false_iff_ne.mpr hs, Bool.false_and]

/-- The standby timer by its age (R160). -/
theorem standbyExpired_of_running {b : Standby} (hs : s.standbyCondition = true) (hb : s.supply.standby = some b) :
    s.standbyExpired = decide (b.ms ≤ (s.clock.now.ms - b.start).toNat) := by
  rw [State.standbyExpired, hs, hb]
  rfl

theorem standbyExpired_of_stopped (h : s.supply.standby = none ∨ s.standbyCondition ≠ true) : s.standbyExpired = false := by
  rw [State.standbyExpired]
  rcases h with h | h
  · rw [h, Bool.and_false]
  · rw [Bool.eq_false_iff.mpr h, Bool.false_and]

theorem exec_warmUpLimitExpiry : exec .warmUpLimitExpiry s =
    if s.warmUpExpired then
      .next (({ s with supply := { s.supply with state := .failed, warmUp := none } } : State).post .supplyAlert)
    else .next s := by
  rfl

theorem exec_standbyTimerExpiry : exec .standbyTimerExpiry s =
    if s.standbyExpired then .next { s with supply := { s.supply with state := .off, standby := none } } else .next s := by
  rfl

end

/-- Settles O54: the three uses of the filtered level, and the two timers by their ages. -/
theorem supplyStateMovesUnderItsRules : Obligations.SupplyStateMovesUnderItsRules := by
  intro s level
  refine ⟨fun hrun => ⟨fun hdue hw => ?_, fun v hdue hw hon => ?_, ?_⟩, fun w hs hw => ⟨fun h => ?_, fun h => ?_⟩, fun hs => ?_, ?_⟩
  · exact (exec_supplyOkFilterExpiry_due hrun hdue).trans (congrArg _ (supplyOkTaken_warming hw rfl))
  · exact (exec_supplyOkFilterExpiry_due hrun hdue).trans (congrArg _ (supplyOkTaken_other (s := level v) hw hon))
  · intro hsched hdue hon after
    obtain ⟨hrecords, -⟩ := hsched
    let failed : State := { level false with supply := { (level false).supply with state := .failed, warmUp := none, standby := none } }
    have hhandled := handled_loss (s := failed) hrecords
    set y := failed.zoneIds.foldl (fun t q => t.loseZone q.1 q.2) failed
    have hexec : exec .supplyOkFilterExpiry s = .next (y.post .supplyAlert).settle :=
      (exec_supplyOkFilterExpiry_due hrun hdue).trans (congrArg _ (supplyOkTaken_on (s := level false) hon rfl))
    have hsupply : y.supply = ⟨.failed, none, none, levelAfter s.supply.ok false⟩ := by
      obtain ⟨hstate, hwarm⟩ := hhandled.supply_running nofun
      have hstandby : y.supply.standby = none := by
        by_cases hsome : ∃ r ∈ s.zones, Joins r (lost r)
        · exact hhandled.standby_none hsome
        · rw [hhandled.supply_same fun r hr hj => hsome ⟨r, hr, hj⟩]
      exact supply_ext hstate hwarm hstandby hhandled.moves.ok
    have hmoves := (hhandled.moves.trans (moves_post y .supplyAlert)).trans (moves_settle _)
    have hzones : (y.post .supplyAlert).settle.zones = s.zones.map after := (settle_zones _).trans hhandled.zones_all
    have hnotices : ∀ p, ((y.post .supplyAlert).port p).notices = (s.port p).notices ||| (if p = .console then 64 else 0) :=
      fun p => (supplyAlert_notices y p).trans (by rw [hhandled.port]; rfl)
    refine ⟨_, hexec, ⟨hmoves.rest, hmoves.ports, hmoves.ok⟩, ?_, hzones, ?_, fun u => ?_, fun hset hover => ?_, fun hnot => ?_⟩
    · have hposted : (y.post .supplyAlert).supply = ⟨.failed, none, none, levelAfter s.supply.ok false⟩ := hsupply
      have hstopped : ¬ (y.post .supplyAlert).standbyCondition = true := fun e => by
        have hstate := ((standbyCondition_iff _).mp e).1
        rw [hposted] at hstate
        cases hstate
      obtain ⟨hsame, htimer⟩ := settle_supply_eq (y.post .supplyAlert)
      rw [if_neg fun e => hstopped e.1] at htimer
      rw [hsame, htimer, hposted]
    · rw [movingCount_eq_zero_iff, hzones]
      intro r hr
      obtain ⟨q, -, rfl⟩ := List.mem_map.mp hr
      exact lost_state q
    · exact (settle_queue _ u).trans (hhandled.queue_all hrecords (fun r => lost_of_not_moving) u)
    · rw [settle_zones] at hover
      obtain ⟨hclear, hports⟩ := settle_of_over (s := y.post .supplyAlert) ⟨hhandled.preset.trans hset, hover⟩
      exact ⟨hclear, fun p => (hports p).trans (by rw [hnotices])⟩
    · rw [settle_zones, show s.preset = (y.post .supplyAlert).preset from hhandled.preset.symm] at hnot
      obtain ⟨hkeep, hports⟩ := settle_of_not_over hnot
      exact ⟨hkeep.trans hhandled.preset, fun p => (hports p).trans (hnotices p)⟩
  · rw [exec_warmUpLimitExpiry, warmUpExpired_of_warming hs hw, if_pos (decide_eq_true h)]
    rfl
  · rw [exec_warmUpLimitExpiry, warmUpExpired_of_warming hs hw, if_neg (by simpa using h)]
  · rw [exec_warmUpLimitExpiry, warmUpExpired_of_other hs]
    rfl
  · refine ⟨fun b hs hb => ⟨fun h => ?_, fun h => ?_⟩, fun h => ?_⟩
    · rw [exec_standbyTimerExpiry, standbyExpired_of_running ((standbyCondition_iff s).mpr hs) hb, if_pos (decide_eq_true h)]
    · rw [exec_standbyTimerExpiry, standbyExpired_of_running ((standbyCondition_iff s).mpr hs) hb, if_neg (by simpa using h)]
    · rw [exec_standbyTimerExpiry, standbyExpired_of_stopped (h.imp id fun hn e => hn ((standbyCondition_iff s).mp e))]
      rfl

end Sys2Proof.Claims
end

section
/-! PROOF. Every step keeps the laws of the Move Scheduler (R13, R106, R111, R117, R126, R129). -/

namespace Sys2Proof.Claims

open Sys2Proof.Machine Sys2Proof.Safety

/-! ### The laws, by what they speak of -/

/-- The laws of the Move Scheduler, those that its operations keep one by one set apart. -/
structure Scheduled (s : State) : Prop where
  base : Base s
  moving : MovingNeedsSupply s
  freeze : FreezeOk s
  phase : PhaseOk s
  limits : LimitsOk s

theorem budget_le_of_limitsCheck {l : Limits} (h : limitsCheck l = none) : l.budget ≤ 24 := by
  by_contra hb
  rw [limitsCheck, if_pos (by omega)] at h
  cases h

theorem scheduled_iff (s : State) : Scheduled s ↔ SchedulerOk s := by
  constructor
  · rintro ⟨⟨hrecords, hlaws, hqueues, hcount, -⟩, hmoving, hfreeze, hphase, hlimits⟩
    exact ⟨hrecords, hlaws, hqueues, ⟨hcount, hmoving⟩, hfreeze, hphase, hlimits⟩
  · rintro ⟨hrecords, hlaws, hqueues, ⟨hcount, hmoving⟩, hfreeze, hphase, hlimits⟩
    exact ⟨⟨hrecords, hlaws, hqueues, hcount, budget_le_of_limitsCheck hlimits.1⟩, hmoving, hfreeze, hphase, hlimits⟩

/-- A change outside zones, queues, limits and the supply state, the FREEZE level and the phase at most. -/
theorem Scheduled.congr {s t : State} (h : Scheduled s) (hnz : t.nz = s.nz) (hzones : t.zones = s.zones)
    (hqueues : t.queues = s.queues) (hlimits : t.limits = s.limits) (hloop : t.loop = s.loop)
    (hsupply : t.supply.state = s.supply.state)
    (hfreeze : t.press.freeze.filtered = s.press.freeze.filtered ∨ s.press.phase ≠ .running)
    (hphase : s.press.phase = .running → t.press.phase = .running) : Scheduled t where
  base := h.base.congr hnz hzones hqueues hlimits
  moving := fun r hr hm => by
    rw [hzones] at hr
    rw [hsupply]
    exact h.moving r hr hm
  freeze := fun hf r hr => by
    rw [hzones] at hr
    rcases hfreeze with he | he
    · exact h.freeze (he ▸ hf) r hr
    · rw [h.phase he] at hr
      cases hr
  phase := fun hn => by
    rw [hzones]
    exact h.phase fun e => hn (hphase e)
  limits := by
    unfold LimitsOk
    rw [hlimits, hloop]
    exact h.limits

theorem turns_loop {s t : State} (h : Turns s t) : t.loop = s.loop := by rw [h.rest]

/-- The phase law under a change that keeps the records' places. -/
theorem phaseOk_of_places {s t : State} (h : PhaseOk s) (hpress : t.press = s.press)
    (hpairs : t.zones.map place = s.zones.map place) : PhaseOk t := by
  intro hn
  rw [hpress] at hn
  rw [h hn] at hpairs
  exact List.map_eq_nil_iff.mp hpairs

/-- Every change of the Move Scheduler and the key lines keeps the laws. -/
theorem Scheduled.sched {s t : State} (h : Scheduled s) (hs : Sched s t) : Scheduled t where
  base := hs.base h.base
  moving := hs.movingNeedsSupply h.base h.moving
  freeze := hs.freezeOk h.base h.freeze
  phase := phaseOk_of_places h.phase hs.turns.press hs.turns.pairs
  limits := by
    unfold LimitsOk
    rw [hs.turns.limits, turns_loop hs.turns]
    exact h.limits

theorem Scheduled.settle {s : State} (h : Scheduled s) : Scheduled s.settle := h.sched (.settle s)

theorem Scheduled.post {s : State} (h : Scheduled s) (n : Notice) : Scheduled (s.post n) := h.sched (.post s n)

/-- A part without zones and with lawful parameters. -/
theorem scheduled_of_no_zones {t : State} (hnz : t.nz = []) (hzones : t.zones = []) (hqueues : t.queues = Vector.replicate 8 [])
    (hlimits : LimitsOk t) : Scheduled t := by
  have hnone : ∀ {P : ZoneRec → Prop}, ∀ r ∈ t.zones, P r := fun r hr => by rw [hzones] at hr; cases hr
  have hqueue : ∀ u, t.queue u = [] := fun u => by
    rw [State.queue, hqueues]
    exact at1_replicate 8 u []
  refine ⟨⟨?_, hnone, ⟨hnone, fun u _ => ?_⟩, ?_, budget_le_of_limitsCheck hlimits.1⟩, hnone, fun _ => hnone, fun _ => hzones, hlimits⟩
  · rw [RecordsOk, hnz, hzones]
    exact ⟨Nat.zero_le 8, rfl⟩
  · rw [hqueue]
    exact ⟨List.nodup_nil, fun _ hz => (List.not_mem_nil hz).elim⟩
  · rw [State.movingCount, hzones]
    exact Nat.zero_le 24

/-! ### Records whose motion fields stay -/

/-- A change of a record that leaves its place and every field of its motion as they are. -/
def MotionKept (h : ZoneRec → ZoneRec) : Prop :=
  ∀ r, h r = { r with
    coverage := (h r).coverage, effective := (h r).effective, base := (h r).base, target := (h r).target, limit := (h r).limit
    consoleTrim := (h r).consoleTrim, loopTrim := (h r).loopTrim, loopHold := (h r).loopHold }

theorem motionKept_id : MotionKept id := fun _ => rfl

theorem MotionKept.comp {f g : ZoneRec → ZoneRec} (hf : MotionKept f) (hg : MotionKept g) : MotionKept (f ∘ g) := by
  intro r
  have h1 := hf (g r)
  rw [Function.comp_apply, h1]
  have h2 := hg r
  rw [h2]

theorem MotionKept.state {h : ZoneRec → ZoneRec} (hh : MotionKept h) (r : ZoneRec) : (h r).state = r.state := by rw [hh r]
theorem MotionKept.place {h : ZoneRec → ZoneRec} (hh : MotionKept h) (r : ZoneRec) : place (h r) = place r := by
  rw [hh r]
  rfl
theorem MotionKept.recordLaws {h : ZoneRec → ZoneRec} (hh : MotionKept h) {r : ZoneRec} (hr : RecordLaws r) : RecordLaws (h r) := by
  rw [hh r]
  exact hr

/-- The part with other set-point fields, trims and hold flags, and at most another job, slot and preset flag. -/
structure Reworks (s x : State) : Prop where
  rest : x = { s with
    zones := x.zones, job := x.job, device := x.device, preset := x.preset, slot := x.slot, ports := x.ports }
  zones : ∃ h : ZoneRec → ZoneRec, x.zones = s.zones.map h ∧ MotionKept h

theorem Reworks.trans {s x y : State} (a : Reworks s x) (b : Reworks x y) : Reworks s y where
  rest := by rw [b.rest, a.rest]
  zones := by
    obtain ⟨f, hf, hfk⟩ := a.zones
    obtain ⟨g, hg, hgk⟩ := b.zones
    exact ⟨g ∘ f, by rw [hg, hf, List.map_map], hgk.comp hfk⟩

theorem setPoint_motionKept (s : State) (j : ActiveJob) : MotionKept (setPoint s j) := by
  intro r
  have h := setPoint_frame s j r
  rw [h]

theorem motionKept_setPoint (s : State) (j : ActiveJob) (p : ZoneRec → Bool) :
    MotionKept (fun r => if p r then setPoint s j r else r) := by
  intro r
  dsimp only
  split_ifs
  · exact setPoint_motionKept s j r
  · rfl

theorem reworks_recompute (s : State) (p : ZoneRec → Bool) : Reworks s (s.recompute p).1 := by
  obtain hj | ⟨j, hj⟩ := Option.eq_none_or_eq_some s.job
  · have he : s.recompute p = (s, []) := by rw [State.recompute, hj]
    rw [he]
    exact ⟨rfl, id, (List.map_id _).symm, motionKept_id⟩
  · rw [recompute_of_job p hj]
    exact ⟨rfl, _, rfl, motionKept_setPoint s j p⟩

section
variable {s x : State} (h : Reworks s x)
include h

theorem Reworks.queues : x.queues = s.queues := by rw [h.rest]
theorem Reworks.limits : x.limits = s.limits := by rw [h.rest]
theorem Reworks.supply : x.supply = s.supply := by rw [h.rest]
theorem Reworks.nz : x.nz = s.nz := by rw [h.rest]
theorem Reworks.press : x.press = s.press := by rw [h.rest]
theorem Reworks.loop : x.loop = s.loop := by rw [h.rest]
theorem Reworks.lines : x.lines = s.lines := by rw [h.rest]

theorem Reworks.places : x.zones.map Claims.place = s.zones.map Claims.place := by
  obtain ⟨f, hf, hk⟩ := h.zones
  rw [hf, List.map_map]
  exact List.map_congr_left fun r _ => hk.place r

theorem Reworks.states : x.zones.map ZoneRec.state = s.zones.map ZoneRec.state := by
  obtain ⟨f, hf, hk⟩ := h.zones
  rw [hf, List.map_map]
  exact List.map_congr_left fun r _ => hk.state r

/-- The laws of the Move Scheduler do not read what is reworked. -/
theorem Scheduled.rework (hs : Scheduled s) : Scheduled x := by
  obtain ⟨f, hf, hk⟩ := h.zones
  have hqueue : ∀ u, x.queue u = s.queue u := fun u => by rw [State.queue, h.queues]; rfl
  have hrecords : RecordsOk x := by
    rw [RecordsOk, h.nz]
    exact ⟨hs.base.records.1, h.places.trans hs.base.records.2⟩
  have hmem : ∀ {P : ZoneRec → Prop}, (∀ r ∈ s.zones, P (f r)) → ∀ r ∈ x.zones, P r := fun hP r hr => by
    rw [hf] at hr
    obtain ⟨q, hq, rfl⟩ := List.mem_map.mp hr
    exact hP q hq
  refine ⟨⟨hrecords, hmem fun r hr => hk.recordLaws (hs.base.laws r hr), ⟨hmem fun r hr => ?_, fun u hu => ?_⟩, ?_, ?_⟩,
    hmem fun r hr hm => ?_, fun hfreeze => hmem fun r hr => ?_, phaseOk_of_places hs.phase h.press h.places, ?_⟩
  · rw [hqueue, hk.state, hk r]
    exact hs.base.queues.1 r hr
  · obtain ⟨hnodup, hzone⟩ := hs.base.queues.2 u hu
    rw [hqueue]
    exact ⟨hnodup, fun z hz => (zone?_isSome_congr hs.base.records hrecords h.nz u z).mpr (hzone z hz)⟩
  · have hcount : x.movingCount = s.movingCount := by
      rw [State.movingCount, hf, List.countP_map]
      exact List.countP_congr fun r _ => by rw [Function.comp_apply, hk.state]
    rw [hcount]
    exact hs.base.moving
  · rw [h.limits]
    exact hs.base.budget
  · rw [hk.state] at hm
    rw [h.supply]
    exact hs.moving r hr hm
  · rw [h.press] at hfreeze
    rw [hk r]
    exact hs.freeze hfreeze r hr
  · unfold LimitsOk
    rw [h.limits, h.loop]
    exact hs.limits

end

/-! ### Batches -/

theorem sched_handBatch (s : State) (batch : List (Nat × Nat)) : Sched s (s.handBatch batch) :=
  (sched_batch s batch).trans (.settle _)

/-- The four requests that rewrite set-point fields or trims (R46, R48, R49, R78, R101). -/
theorem reworks_trims {s : State} {g : ZoneRec → ZoneRec} (hg : TrimsOnly g) :
    Reworks s (({ s with zones := s.zones.map g } : State).recompute (trimChanged s.zones)).1 :=
  Reworks.trans (x := { s with zones := s.zones.map g })
    ⟨rfl, g, rfl, fun r => by
      have h := hg r
      rw [h]⟩
    (reworks_recompute _ _)

theorem reworks_loopHold (s : State) {g : ZoneRec → ZoneRec} (hg : LoopHoldOnly g) : Reworks s { s with zones := s.zones.map g } :=
  ⟨rfl, g, rfl, fun r => by
    have h := hg r
    rw [h]⟩

theorem reworks_endedJob (s : State) : Reworks s (endedJob s) := ⟨rfl, endedRecord, rfl, fun _ => rfl⟩

theorem reworks_sweptJob (s : State) (j : ActiveJob) (u sweep : Nat) (p : ZoneRec → Bool) :
    Reworks s ((sweptJob s j u sweep).recompute p).1 :=
  Reworks.trans (x := sweptJob s j u sweep) ⟨rfl, id, (List.map_id _).symm, motionKept_id⟩ (reworks_recompute _ _)

theorem reworks_take (s : State) (c : Stage) : Reworks s ((s.take c).1.post .jobTaken) := by
  refine ⟨rfl, (setPoint { s with zones := takenZones s c } c.asJob) ∘ takenRecord s.zonesOf c, ?_, ?_⟩
  · exact (take_zones s c).trans (List.map_map ..)
  · exact MotionKept.comp (setPoint_motionKept _ _) fun _ => rfl

/-! ### The commands -/

/-- A zone record as created, UNKNOWN and at rest, satisfies the laws (R4). -/
theorem recordLaws_created (u z : Nat) : RecordLaws (ZoneRec.created u z) := by
  have h : RecordLaws (atRest .unknown none (ZoneRec.created u z)) :=
    recordLaws_at_rest nofun (Nat.zero_le 2) (Nat.zero_le 2) ⟨nofun, nofun, fun _ _ => rfl⟩ (by rintro (e | e | e | e) <;> cases e) nofun
  exact h

/-- The part after CONFIGURE (R4). -/
theorem scheduled_configured {s : State} (hlimits : LimitsOk s) {nz : List Nat} (hlen : nz.length ≤ 8)
    (hrun : s.press.phase = .running) : Scheduled (s.configured nz) := by
  have hcreated : ∀ {P : ZoneRec → Prop}, (∀ u z, P (ZoneRec.created u z)) → ∀ r ∈ (s.configured nz).zones, P r :=
    fun hP r hr => by
      obtain ⟨he, -⟩ := mem_createdZones.mp hr
      rw [he]
      exact hP _ _
  have hqueue : ∀ u, (s.configured nz).queue u = [] := fun u => at1_replicate 8 u []
  refine ⟨⟨⟨hlen, rfl⟩, hcreated recordLaws_created, ⟨hcreated fun u z => ?_, fun u _ => ?_⟩, ?_,
    budget_le_of_limitsCheck hlimits.1⟩, hcreated fun _ _ => nofun, fun _ => hcreated fun _ _ => rfl, fun hn => absurd hrun hn,
    hlimits⟩
  · rw [hqueue]
    exact iff_of_false List.not_mem_nil nofun
  · rw [hqueue]
    exact ⟨List.nodup_nil, fun _ hz => (List.not_mem_nil hz).elim⟩
  · rw [(movingCount_eq_zero_iff _).mpr (hcreated fun _ _ => nofun)]
    exact Nat.zero_le 24

theorem retrySupply_frame (s : State) : s.retrySupply = { s with supply := s.retrySupply.supply } := by
  rw [retrySupply_eq]
  split_ifs <;> rfl

/-- No zone is MOVING while the supply is not ON. -/
theorem Scheduled.none_moving {s : State} (h : Scheduled s) (hon : s.supply.state ≠ .on) : ∀ r ∈ s.zones, r.state ≠ .moving :=
  fun r hr hm => hon (h.moving r hr hm)

/-- A change of the supply while no zone is MOVING. -/
theorem Scheduled.resupply {s : State} (h : Scheduled s) (hnone : ∀ r ∈ s.zones, r.state ≠ .moving) (p : Supply) :
    Scheduled { s with supply := p } :=
  ⟨h.base.congr rfl rfl rfl rfl, fun r hr hm => absurd hm (hnone r hr), h.freeze, h.phase, h.limits⟩

/-- What an executed request leaves satisfies the laws (R177). -/
theorem Scheduled.body {q : Req} {s x : State} (h : Scheduled s) (hrun : s.press.phase = .running) (hx : BodyEffect q s x) : Scheduled x := by
  cases hx with
  | same => exact h
  | ports ps => exact h.congr rfl rfl rfl rfl rfl rfl (.inl rfl) id
  | hold b => exact h.congr rfl rfl rfl rfl rfl rfl (.inl rfl) id
  | slot sl ps hslot hfits => exact h.congr rfl rfl rfl rfl rfl rfl (.inl rfl) id
  | discard hq => exact h.congr rfl rfl rfl rfl rfl rfl (.inl rfl) id
  | curve k c hok hfree => exact h.congr rfl rfl rfl rfl rfl rfl (.inl rfl) id
  | limits l hok => exact ⟨⟨h.base.records, h.base.laws, h.base.queues, h.base.moving, budget_le_of_limitsCheck hok⟩, h.moving,
      h.freeze, h.phase, hok, h.limits.2⟩
  | loop l hok => exact ⟨h.base.congr rfl rfl rfl rfl, h.moving, h.freeze, h.phase, h.limits.1, hok⟩
  | retry hfailed =>
    rw [retrySupply_frame]
    exact h.resupply (h.none_moving (by rw [hfailed]; decide)) _
  | configure nz hdevice hlen hnz => exact scheduled_configured h.limits hlen.2 hrun
  | loopHold g hg => exact Scheduled.rework (reworks_loopHold s hg) h
  | addDisable hr hs => exact h.sched (sched_addDisable hr hs)
  | service x hsched hmoves => exact (h.sched hsched).settle
  | cal u z e he => exact h.congr rfl rfl rfl rfl rfl rfl (.inl rfl) id
  | calService u z e he x hsched hmoves =>
    have hcal : Scheduled (s.setCalEntry u z e) := h.congr rfl rfl rfl rfl rfl rfl (.inl rfl) id
    exact (hcal.sched hsched).settle
  | trims g hg hrange => exact (Scheduled.rework (reworks_trims hg) h).sched (sched_handBatch _ _)
  | endJob j hj => exact (Scheduled.rework (reworks_endedJob s) h).sched (sched_handBatch _ _)
  | sweep u sweep j p hj hp hsweep => exact (Scheduled.rework (reworks_sweptJob s j u sweep _) h).sched (sched_handBatch _ _)
  | take c hslot hdefined hdevice => exact (Scheduled.rework (reworks_take s c) h).sched (sched_handBatch _ _)

/-- At the assertion of FREEZE no retry stays due (R129). -/
theorem freezeOk_of_frozen {s t : State} (hlaws : ∀ r ∈ s.zones, RecordLaws r) (hzones : t.zones = s.zones.map (frozen s)) :
    FreezeOk t := by
  intro _ r hr
  rw [hzones] at hr
  obtain ⟨q, hq, rfl⟩ := List.mem_map.mp hr
  have hlaw := hlaws q hq
  unfold frozen
  split_ifs with hm hretry hstale
  · obtain ⟨p, hp⟩ := Option.isSome_iff_exists.mp (measured_isSome_of_state (.inr (.inr (.inr (.inl hm)))) hlaw)
    unfold evaluated
    cases ht : q.target with
    | none => rfl
    | some t =>
      rw [hp]
      dsimp only
      split_ifs <;> rfl
  · rfl
  · exact Bool.eq_false_iff.mpr hretry
  · obtain ⟨-, -, ⟨-, hdue, -⟩, -⟩ := hlaw
    exact Bool.eq_false_iff.mpr fun e => hm (hdue e)

/-- The assertion of FREEZE, whatever retries stood due (R129). -/
theorem scheduled_freezeAsserted {s : State} (hbase : Base s) (hmoving : MovingNeedsSupply s) (hphase : PhaseOk s)
    (hlimits : LimitsOk s) : Scheduled s.freezeAsserted := by
  have hfold : Sched s (s.zoneIds.foldl (fun t q => t.freezeZone q.1 q.2) s) :=
    sched_foldl (f := fun (t : State) (q : Nat × Nat) => t.freezeZone q.1 q.2) (fun t q => sched_freezeZone t q.1 q.2) _ _
  have hhandled := handled_freeze hbase.records
  refine Scheduled.settle ⟨hfold.base hbase, hfold.movingNeedsSupply hbase hmoving,
    freezeOk_of_frozen hbase.laws hhandled.zones_all, phaseOk_of_places hphase hfold.turns.press hfold.turns.pairs, ?_⟩
  unfold LimitsOk
  rw [hfold.turns.limits, turns_loop hfold.turns]
  exact hlimits

/-- A supply loss, which leaves no zone MOVING (R161). -/
theorem scheduled_supplyLoss {s : State} (hbase : Base s) (hfreeze : FreezeOk s) (hphase : PhaseOk s)
    (hlimits : LimitsOk s) : Scheduled s.supplyLoss := by
  let failed : State := { s with supply := { s.supply with state := .failed, warmUp := none, standby := none } }
  have hfold : Sched failed (failed.zoneIds.foldl (fun t q => t.loseZone q.1 q.2) failed) :=
    sched_foldl (f := fun (t : State) (q : Nat × Nat) => t.loseZone q.1 q.2) (fun t q => sched_loseZone t q.1 q.2) _ _
  have hfailed : Base failed := hbase.congr rfl rfl rfl rfl
  have hhandled := handled_loss (s := failed) hbase.records
  refine Scheduled.settle (Scheduled.post ⟨hfold.base hfailed, fun r hr hm => ?_, hfold.freezeOk hfailed hfreeze,
    phaseOk_of_places hphase hfold.turns.press hfold.turns.pairs, ?_⟩ _)
  · rw [hhandled.zones_all] at hr
    obtain ⟨q, -, rfl⟩ := List.mem_map.mp hr
    exact absurd hm (lost_state q)
  · unfold LimitsOk
    rw [hfold.turns.limits, turns_loop hfold.turns]
    exact hlimits

/-- Every command keeps the laws. -/
theorem Scheduled.effect {s t : State} (h : Scheduled s) (ht : Effect s t) : Scheduled t := by
  cases ht with
  | quiet hframe hfreeze hphase hbusy =>
    rw [hframe]
    exact h.congr rfl rfl rfl rfl rfl rfl hfreeze hphase
  | ended p =>
    exact h.congr (t := (s.commit p).modPort p PortCtl.finish) (s.commit_nz p) (s.commit_zones p) (s.commit_queues p)
      (s.commit_limits p) (s.commit_loop p) (congrArg Supply.state (s.commit_supply p))
      (.inl (congrArg (fun d => d.freeze.filtered) (s.commit_press p))) fun h => (congrArg _ (s.commit_press p)).trans h
  | reset hframe htables =>
    rw [hframe]
    exact scheduled_of_no_zones rfl rfl rfl limitsOk_reset
  | sched x hsched hlines => exact (h.sched hsched).settle
  | line u l hlines => exact h.sched (.setLine s u l)
  | grant u hpick hlines => exact h.sched (.grant hpick)
  | freezeOn l hl =>
    have hlevel : Base { s with press := { s.press with freeze := l } } := h.base.congr rfl rfl rfl rfl
    exact (scheduled_freezeAsserted hlevel h.moving h.phase h.limits).post _
  | freezeOff l hl =>
    have hlevel : Scheduled { s with press := { s.press with freeze := l } } :=
      ⟨h.base.congr rfl rfl rfl rfl, h.moving, fun e => absurd (hl.symm.trans e) (by decide), h.phase, h.limits⟩
    exact hlevel.post _
  | supplyOn l hw => exact (h.resupply (h.none_moving (by rw [hw]; decide)) _).settle
  | supplyLost l hon =>
    have hlevel : Base { s with supply := { s.supply with ok := l } } := h.base.congr rfl rfl rfl rfl
    exact scheduled_supplyLoss hlevel h.freeze h.phase h.limits
  | warmUpOver hw => exact (h.resupply (h.none_moving (by rw [hw]; decide)) _).post _
  | standbyOver hs => exact h.resupply ((standbyCondition_iff s).mp hs).2.2 _
  | request p code tag a x w hbody hrun hw hfree =>
    have hshift : Scheduled (s.shiftZero p) := h.congr rfl rfl rfl rfl rfl rfl (.inl rfl) id
    exact (hshift.body hrun hbody).congr rfl rfl rfl rfl rfl rfl (.inl rfl) id

/-- Settles O55: by the form of each command's effect. -/
theorem everyStepKeepsTheSchedulerLaws : Obligations.EveryStepKeepsTheSchedulerLaws := by
  intro s t hs h
  refine (scheduled_iff t).mp (step_keeps_of_effect (P := Scheduled) (fun s l hs => ?_) (fun s t => Scheduled.effect)
    ((scheduled_iff s).mpr hs) h)
  exact hs.congr rfl rfl rfl rfl rfl rfl (.inl rfl) id

end Sys2Proof.Claims
end

section
/-! PROOF. Every step keeps the laws of the key lines, of the supply timers and of preset tracking (R51, R131, R157 to R160). -/

namespace Sys2Proof.Claims

open Sys2Proof.Machine Sys2Proof.Safety

/-! ### The key lines -/

theorem moves_handBatch_lines (s : State) (batch : List (Nat × Nat)) : (s.handBatch batch).lines = s.lines :=
  (moves_handBatch s batch).lines

/-- A line without its halt mark is as lawful (R150). -/
theorem linesOk_configured {s : State} (h : LinesOk s) (nz : List Nat) : LinesOk (s.configured nz) := by
  intro l hl
  change l ∈ (s.lines.map fun l => { l with haltMark := none }).toList at hl
  rw [Vector.toList_map] at hl
  obtain ⟨q, hq, rfl⟩ := List.mem_map.mp hl
  exact h q hq

/-- What an executed request leaves keeps the lines' laws. -/
theorem linesOk_body {q : Req} {s x : State} (h : LinesOk s) (hx : BodyEffect q s x) : LinesOk x := by
  cases hx with
  | configure nz hdevice hlen hnz => exact linesOk_configured h nz
  | retry hfailed => exact linesOk_congr h (by rw [retrySupply_frame])
  | service x hsched hmoves => exact linesOk_congr h (hmoves.trans (moves_settle x)).lines
  | calService u z e he x hsched hmoves => exact linesOk_congr (t := x.settle) h (hmoves.trans (moves_settle x)).lines
  | trims g hg hrange => exact linesOk_congr h ((moves_handBatch_lines _ _).trans (reworks_trims hg).lines)
  | endJob j hj => exact linesOk_congr h ((moves_handBatch_lines _ _).trans (reworks_endedJob s).lines)
  | sweep u sweep j p hj hp hsweep =>
    exact linesOk_congr h ((moves_handBatch_lines _ _).trans (reworks_sweptJob s j u sweep _).lines)
  | take c hslot hdefined hdevice => exact linesOk_congr h ((moves_handBatch_lines _ _).trans (reworks_take s c).lines)
  | _ => exact h

/-- Every command keeps the lines' laws. -/
theorem linesOk_effect {s t : State} (h : LinesOk s) (ht : Effect s t) : LinesOk t := by
  cases ht with
  | quiet hframe hfreeze hphase hbusy =>
    rw [hframe]
    exact h
  | ended p => exact linesOk_congr h (s.commit_lines p)
  | reset hframe htables =>
    rw [hframe]
    exact forall_mem_replicate lineOk_afterReset
  | sched x hsched hlines => exact linesOk_congr (hlines h) (moves_settle x).lines
  | line u l hlines => exact hlines h
  | grant u hpick hlines => exact hlines h
  | freezeOn l hl => exact linesOk_congr h ((moves_freezeAsserted _).trans (moves_post _ _)).lines
  | freezeOff l hl => exact linesOk_congr h (moves_post _ _).lines
  | supplyOn l hw => exact linesOk_congr h (moves_settle _).lines
  | supplyLost l hon => exact linesOk_congr h (moves_supplyLoss _).lines
  | warmUpOver hw => exact linesOk_congr h (moves_post _ _).lines
  | standbyOver hs => exact h
  | request p code tag a x w hbody hrun hw hfree => exact linesOk_body (s := s.shiftZero p) (x := x) h hbody

/-! ### The supply timers and preset tracking -/

/-- Some zone is in one of the key states a set preset flag waits for (R51). -/
def Waiting (ks : List KeyState) : Prop := ∃ k ∈ ks, k = .queued ∨ k = .moving ∨ k = .unknown

theorem waiting_iff (zones : List ZoneRec) :
    Waiting (zones.map ZoneRec.state) ↔ ∃ r ∈ zones, r.state = .queued ∨ r.state = .moving ∨ r.state = .unknown := by
  simp only [Waiting, List.mem_map, exists_exists_and_eq_and]

theorem moving_states_iff (zones : List ZoneRec) :
    (∀ k ∈ zones.map ZoneRec.state, k ≠ .moving) ↔ ∀ r ∈ zones, r.state ≠ .moving := by
  simp only [List.mem_map, forall_exists_index, and_imp, forall_apply_eq_imp_iff₂]

section
variable {s t : State}

theorem standbyCondition_congr (hstates : t.zones.map ZoneRec.state = s.zones.map ZoneRec.state) (hqueues : t.queues = s.queues)
    (hsupply : t.supply.state = s.supply.state) : t.standbyCondition = s.standbyCondition := by
  rw [Bool.eq_iff_iff, standbyCondition_iff, standbyCondition_iff, hsupply, hqueues, ← moving_states_iff, hstates,
    moving_states_iff]

/-- A change that keeps key states, queues, supply, standby time and preset flag. -/
theorem timersOk_congr (h : TimersOk s) (hstates : t.zones.map ZoneRec.state = s.zones.map ZoneRec.state)
    (hqueues : t.queues = s.queues) (hsupply : t.supply = { s.supply with ok := t.supply.ok })
    (hlimits : t.limits.standbyS = s.limits.standbyS) (hpreset : t.preset = s.preset) : TimersOk t := by
  obtain ⟨hstandby, hwarm, hoff, hwaits⟩ := h
  have hstate : t.supply.state = s.supply.state := by rw [hsupply]
  have hwarmUp : t.supply.warmUp = s.supply.warmUp := by rw [hsupply]
  have htimer : t.supply.standby = s.supply.standby := by rw [hsupply]
  refine ⟨?_, ?_, ?_, ?_⟩
  · rw [htimer, standbyCondition_congr hstates hqueues hstate, hlimits]
    exact hstandby
  · rw [hwarmUp, hstate]
    exact hwarm
  · rw [hstate, queuesEmpty_iff, hqueues, ← queuesEmpty_iff]
    exact hoff
  · rw [hpreset, ← waiting_iff, hstates, waiting_iff]
    exact hwaits

theorem timersMid_congr (h : TimersMid s) (hstates : t.zones.map ZoneRec.state = s.zones.map ZoneRec.state)
    (hqueues : t.queues = s.queues) (hsupply : t.supply = s.supply) (hlimits : t.limits = s.limits) : TimersMid t := by
  refine ⟨?_, ?_, ?_⟩
  · rw [hsupply, hlimits, standbyCondition_congr hstates hqueues (by rw [hsupply])]
    exact h.standby
  · rw [hsupply]
    exact h.warmUp
  · rw [hsupply]
    intro e v
    rw [State.queue, hqueues]
    exact h.off e v

/-- Scheduler changes of a reworked part, with the tests that follow. -/
theorem timersOk_of_rework {x : State} (h : TimersOk s) (hs : Scheduled s) (hx : Reworks s x) (batch : List (Nat × Nat)) :
    TimersOk (x.handBatch batch) := by
  have hmid : TimersMid x := timersMid_congr (timersMid_of_timersOk h) hx.states hx.queues hx.supply hx.limits
  exact timersOk_settle ((sched_batch x batch).timersMid (Scheduled.rework hx hs).base hmid)

/-- A supply that is neither OFF nor WARMING nor in standby, with no timer running. -/
theorem timersMid_of_stopped (hstandby : s.supply.standby = none) (hwarm : s.supply.warmUp.isSome ↔ s.supply.state = .warming)
    (hoff : s.supply.state = .off → ∀ v, s.queue v = []) : TimersMid s :=
  ⟨fun e => by simp [hstandby] at e, hwarm, hoff⟩

/-- A standby timer that stands outside ON is absent. -/
theorem standby_none_of_not_on (h : TimersOk s) (hon : s.supply.state ≠ .on) : s.supply.standby = none := by
  by_contra hn
  obtain ⟨hcond, -⟩ := h.1.mp (Option.ne_none_iff_isSome.mp hn)
  exact hon ((standbyCondition_iff s).mp hcond).1

theorem warmUp_none_of_not_warming (h : TimersOk s) (hw : s.supply.state ≠ .warming) : s.supply.warmUp = none := by
  by_contra hn
  exact hw (h.2.1.mp (Option.ne_none_iff_isSome.mp hn))

/-- Outside the standby condition the laws between events are those after one. -/
theorem timersOk_of_not_standby (h : TimersMid s) (hnot : s.standbyCondition ≠ true) (hwaits : PresetWaits s) : TimersOk s :=
  ⟨⟨h.standby, fun e => absurd e.1 hnot⟩, h.warmUp, fun e => (queuesEmpty_iff s).mpr ((queues_nil_iff s).mpr (h.off e)), hwaits⟩

theorem not_standby_of_not_on (hon : s.supply.state ≠ .on) : s.standbyCondition ≠ true :=
  fun e => hon ((standbyCondition_iff s).mp e).1

/-! ### Requests -/

/-- SET LIMITS restarts, stops or starts the standby timer (R89). -/
theorem standbyAtLimits_isSome (h : TimersOk s) (n : Nat) :
    (s.standbyAtLimits n).isSome ↔ s.standbyCondition = true ∧ n ≠ 0 := by
  by_cases hrunning : s.supply.standby.isSome
  · obtain ⟨hcond, -⟩ := h.1.mp hrunning
    rw [standbyAtLimits_of_running hrunning]
    split_ifs with hn
    · simp [hn]
    · simp [hn, hcond]
  · have hnone : s.supply.standby = none := by simpa using hrunning
    have hnot : ¬ (s.standbyCondition = true ∧ s.limits.standbyS ≠ 0) := fun e => hrunning (h.1.mpr e)
    rw [standbyAtLimits_of_stopped hnone]
    by_cases hcond : s.standbyCondition = true
    · have hzero : s.limits.standbyS = 0 := by
        by_contra hne
        exact hnot ⟨hcond, hne⟩
      rw [if_pos ⟨hzero, hcond⟩]
      split_ifs with hn
      · simp [hn]
      · simp [hn, hcond]
    · rw [if_neg fun e => hcond e.2]
      simp [hcond]

theorem timersOk_limits (h : TimersOk s) (l : Limits) :
    TimersOk { s with limits := l, supply := { s.supply with standby := s.standbyAtLimits l.standbyS } } := by
  obtain ⟨-, hwarm, hoff, hwaits⟩ := id h
  exact ⟨standbyAtLimits_isSome h l.standbyS, hwarm, hoff, hwaits⟩

/-- SUPPLY RETRY (R163). -/
theorem timersOk_retry (h : TimersOk s) (hfailed : s.supply.state = .failed) : TimersOk s.retrySupply := by
  have hstandby := standby_none_of_not_on h (by rw [hfailed]; decide)
  have hwarm := warmUp_none_of_not_warming h (by rw [hfailed]; decide)
  obtain ⟨-, -, -, hwaits⟩ := h
  rw [retrySupply_eq]
  split_ifs with hcount hok
  · refine timersOk_of_not_standby (timersMid_of_stopped hstandby ?_ fun _ => ?_) (not_standby_of_not_on nofun) hwaits
    · simp [hwarm]
    · exact (queues_nil_iff s).mp ((queuesEmpty_iff s).mp ((queuedCount_eq_zero_iff s).mp hcount))
  · refine timersOk_of_not_standby (timersMid_of_stopped hstandby (iff_of_false nofun nofun) nofun) (fun e => ?_) hwaits
    exact hcount ((queuedCount_eq_zero_iff s).mpr ((queuesEmpty_iff s).mpr ((standbyCondition_iff _).mp e).2.1))
  · exact timersOk_of_not_standby (timersMid_of_stopped hstandby (iff_of_true rfl rfl) nofun) (not_standby_of_not_on nofun) hwaits

/-- CONFIGURE of a part without zones (R4). -/
theorem timersOk_configured (h : TimersOk s) (hs : Scheduled s) (hnone : s.zones = []) (nz : List Nat) :
    TimersOk (s.configured nz) := by
  have hempty : ∀ v, s.queue v = [] := fun v => by
    by_cases hv : v ≤ 8
    · refine List.eq_nil_iff_forall_not_mem.mpr fun z hz => ?_
      have hzone := (hs.base.queues.2 v (mem_range9 hv)).2 z hz
      rw [State.zone?, hnone] at hzone
      cases hzone
    · exact at1_outside s.queues [] (by omega)
  have hqueue : ∀ v, (s.configured nz).queue v = [] := fun v => at1_replicate 8 v []
  have hcond : (s.configured nz).standbyCondition = s.standbyCondition := by
    rw [Bool.eq_iff_iff, standbyCondition_iff_queue, standbyCondition_iff_queue]
    have hmoving : ∀ r ∈ (s.configured nz).zones, r.state ≠ .moving := fun r hr => by
      obtain ⟨he, -⟩ := mem_createdZones.mp hr
      rw [he]
      nofun
    have hbefore : ∀ r ∈ s.zones, r.state ≠ .moving := fun r hr => by
      rw [hnone] at hr
      cases hr
    exact and_congr Iff.rfl (and_congr (iff_of_true hqueue hempty) (iff_of_true hmoving hbefore))
  obtain ⟨hstandby, hwarm, hoff, hwaits⟩ := h
  refine ⟨?_, hwarm, fun _ => (queuesEmpty_iff _).mpr ((queues_nil_iff _).mpr hqueue), fun hset => ?_⟩
  · rw [hcond]
    exact hstandby
  · obtain ⟨r, hr, -⟩ := hwaits hset
    rw [hnone] at hr
    cases hr

/-- A part without a configuration holds no zone (R1). -/
theorem zones_nil_of_unconfigured (h : DeviceOk s) (hdevice : s.device = .unconfigured) : s.zones = [] :=
  h.2.1.mpr (h.1.mp hdevice)

/-- Changes of the Move Scheduler and the tests that follow. -/
theorem timersOk_of_sched (h : TimersOk s) (hs : Scheduled s) (hx : Sched s t) : TimersOk t.settle :=
  timersOk_settle (hx.timersMid hs.base (timersMid_of_timersOk h))

/-- What an executed request leaves keeps the laws. -/
theorem timersOk_body {q : Req} {x : State} (h : TimersOk s) (hs : Scheduled s) (hdevice : DeviceOk s) (hx :
    BodyEffect q s x) : TimersOk x := by
  cases hx with
  | limits l hok => exact timersOk_limits h l
  | retry hfailed => exact timersOk_retry h hfailed
  | configure nz hd hlen hnz => exact timersOk_configured h hs (zones_nil_of_unconfigured hdevice hd) nz
  | loopHold g hg => exact timersOk_congr h (reworks_loopHold s hg).states rfl rfl rfl rfl
  | addDisable hr hstate =>
    rw [addDisable_eq]
    exact timersOk_congr h (zoneSet_map_eq fun _ => rfl) rfl rfl rfl rfl
  | service x hsched hmoves => exact timersOk_of_sched h hs hsched
  | calService u z e he x hsched hmoves =>
    have hcal : Scheduled (s.setCalEntry u z e) := hs.congr rfl rfl rfl rfl rfl rfl (.inl rfl) id
    exact timersOk_of_sched (s := s.setCalEntry u z e) h hcal hsched
  | trims g hg hrange => exact timersOk_of_rework h hs (reworks_trims hg) _
  | endJob j hj => exact timersOk_of_rework h hs (reworks_endedJob s) _
  | sweep u sweep j p hj hp hsweep => exact timersOk_of_rework h hs (reworks_sweptJob s j u sweep _) _
  | take c hslot hdefined hd => exact timersOk_of_rework h hs (reworks_take s c) _
  | _ => exact timersOk_congr h rfl rfl rfl rfl rfl

/-! ### Commands -/

/-- A grant, which leaves a zone MOVING (R117). -/
theorem timersOk_grant (h : TimersOk s) (hs : Scheduled s) {u : Nat} (hpick : s.arbiterPick = some u) : TimersOk
    (s.grantTo u) := by
  obtain ⟨-, hu8, -, ⟨z, rest, hqueue⟩, -⟩ := of_arbiterPick hpick
  have hmid := (Sched.grant hpick).timersMid hs.base (timersMid_of_timersOk h)
  have hcount := grantTo_movingCount hs.base hu8 hqueue
  have hmoving : ∃ r ∈ (s.grantTo u).zones, r.state = .moving := by
    by_contra hn
    have hzero : (s.grantTo u).movingCount = 0 := (movingCount_eq_zero_iff _).mpr fun r hr hm => hn ⟨r, hr, hm⟩
    omega
  obtain ⟨r, hr, hm⟩ := hmoving
  exact timersOk_of_not_standby hmid (fun e => ((standbyCondition_iff _).mp e).2.2 r hr hm) fun _ => ⟨r, hr, .inr (.inl hm)⟩

/-- A posting moves no timer. -/
theorem timersOk_post (h : TimersOk s) (n : Notice) : TimersOk (s.post n) := by
  refine timersOk_congr h ?_ (s.post_queues n) ?_ ?_ (s.post_preset n)
  · rw [State.post_zones]
  · rw [State.post_supply]
  · rw [State.post_limits]

theorem timersOk_freezeAsserted (h : TimersOk s) (hbase : Base s) : TimersOk s.freezeAsserted :=
  timersOk_settle ((sched_foldl (f := fun (t : State) (q : Nat × Nat) => t.freezeZone q.1 q.2)
    (fun t q => sched_freezeZone t q.1 q.2) s.zoneIds s).timersMid hbase (timersMid_of_timersOk h))

theorem timersOk_supplyLoss (hbase : Base s) : TimersOk s.supplyLoss := by
  let failed : State := { s with supply := { s.supply with state := .failed, warmUp := none, standby := none } }
  have hfold : Sched failed (failed.zoneIds.foldl (fun t q => t.loseZone q.1 q.2) failed) :=
    sched_foldl (f := fun (t : State) (q : Nat × Nat) => t.loseZone q.1 q.2) (fun t q => sched_loseZone t q.1 q.2) _ _
  have hfailed : TimersMid failed := timersMid_of_stopped rfl (iff_of_false nofun nofun) nofun
  have hbase' : Base failed := hbase.congr rfl rfl rfl rfl
  exact timersOk_settle ((hfold.trans (.post _ .supplyAlert)).timersMid hbase' hfailed)

/-- Every command keeps the laws. -/
theorem timersOk_effect (h : TimersOk s) (hs : Scheduled s) (hdevice : DeviceOk s) (ht : Effect s t) : TimersOk t := by
  cases ht with
  | quiet hframe hfreeze hphase hbusy =>
    rw [hframe]
    exact timersOk_congr h rfl rfl rfl rfl rfl
  | ended p =>
    refine timersOk_congr h (congrArg (List.map ZoneRec.state) (s.commit_zones p)) (s.commit_queues p) ?_ ?_ (s.commit_preset p)
    · exact (s.commit_supply p).trans (by rw [← s.commit_supply p]; rfl)
    · exact congrArg Limits.standbyS (s.commit_limits p)
  | reset hframe htables =>
    rw [hframe]
    exact timersOk_congr timersOk_reset rfl rfl rfl rfl rfl
  | sched x hsched hlines => exact timersOk_of_sched h hs hsched
  | line u l hlines => exact timersOk_congr h rfl rfl rfl rfl rfl
  | grant u hpick hlines => exact timersOk_grant h hs hpick
  | freezeOn l hl =>
    have hlevel : Base { s with press := { s.press with freeze := l } } := hs.base.congr rfl rfl rfl rfl
    exact timersOk_post (timersOk_freezeAsserted (s := { s with press := { s.press with freeze := l } }) h hlevel) _
  | freezeOff l hl => exact timersOk_post (s := { s with press := { s.press with freeze := l } }) h _
  | supplyOn l hw =>
    have hstandby := standby_none_of_not_on h (by rw [hw]; decide)
    exact timersOk_settle (timersMid_of_stopped hstandby (iff_of_false nofun nofun) nofun)
  | supplyLost l hon =>
    have hlevel : Base { s with supply := { s.supply with ok := l } } := hs.base.congr rfl rfl rfl rfl
    exact timersOk_supplyLoss hlevel
  | warmUpOver hw =>
    have hstandby := standby_none_of_not_on h (by rw [hw]; decide)
    refine timersOk_post (s := { s with supply := { s.supply with state := .failed, warmUp := none } }) ?_ _
    exact timersOk_of_not_standby (timersMid_of_stopped hstandby (iff_of_false nofun nofun) nofun) (not_standby_of_not_on nofun)
      h.2.2.2
  | standbyOver hcond =>
    obtain ⟨hon, hempty, -⟩ := (standbyCondition_iff s).mp hcond
    have hwarm := warmUp_none_of_not_warming h (by rw [hon]; decide)
    refine timersOk_of_not_standby (timersMid_of_stopped rfl ?_ fun _ => (queues_nil_iff s).mp hempty)
      (not_standby_of_not_on nofun) h.2.2.2
    simp [hwarm]
  | request p code tag a x w hbody hrun hw hfree =>
    have hshift : Scheduled (s.shiftZero p) := hs.congr rfl rfl rfl rfl rfl rfl (.inl rfl) id
    have hx : TimersOk x := timersOk_body (s := s.shiftZero p) h hshift hdevice hbody
    exact timersOk_congr hx rfl rfl rfl rfl rfl

end

/-- Settles O58: by the form of each command's effect, the lines in themselves, the timers with the scheduler's laws. -/
theorem everyStepKeepsLinesAndTimers : Obligations.EveryStepKeepsLinesAndTimers := by
  intro s t h
  refine ⟨fun hs => step_keeps_of_effect (P := LinesOk) (fun _ _ hs => hs) (fun _ _ => linesOk_effect) hs h, ?_⟩
  intro hs hdevice htimers
  obtain ⟨-, rfl⟩ | ⟨c, rest, -, hexec⟩ := step_cases h
  · exact timersOk_effect htimers ((scheduled_iff s).mpr hs) hdevice (effect_tick s)
  · have hrest : Scheduled { s with pending := rest } := ((scheduled_iff s).mpr hs).congr rfl rfl rfl rfl rfl rfl (.inl rfl) id
    exact timersOk_effect (s := { s with pending := rest }) htimers hrest hdevice (exec_effect hexec)

end Sys2Proof.Claims
end

section
/-! PROOF. Every step keeps the laws of tables, parameters, trims, slot, job and device state (R1, R3, R6, R9, R14, R19, R26,
R33, R44, R76, R88, R90, R100). -/

namespace Sys2Proof.Claims

open Sys2Proof.Machine Sys2Proof.Safety

/-! ### The laws kept, each with those it rests on -/

/-- Every law of the tables, the parameters, the slot and the job that holds before holds after. -/
structure Keeps (s t : State) : Prop where
  curves : CurvesOk s → CurvesOk t
  calibration : CalibrationOk s → CalibrationOk t
  limits : LimitsOk s → LimitsOk t
  trims : TrimsOk s → TrimsOk t
  referenced : ReferencedDefined s → ReferencedDefined t
  slot : SlotOk s → SlotOk t
  job : SlotOk s → JobOk s → JobOk t
  slotFits : SlotFits s → DeviceOk s → SlotFits t
  jobFits : SlotFits s → JobFits s → DeviceOk s → JobFits t
  device : DeviceOk s → DeviceOk t
  targets : DeviceOk s → TargetsOk s → TargetsOk t
  ranges : CurvesOk s → SlotOk s → JobOk s → RangesOk s → RangesOk t

theorem Keeps.trans {s t v : State} (a : Keeps s t) (b : Keeps t v) : Keeps s v where
  curves h := b.curves (a.curves h)
  calibration h := b.calibration (a.calibration h)
  limits h := b.limits (a.limits h)
  trims h := b.trims (a.trims h)
  referenced h := b.referenced (a.referenced h)
  slot h := b.slot (a.slot h)
  job hs h := b.job (a.slot hs) (a.job hs h)
  slotFits h hd := b.slotFits (a.slotFits h hd) (a.device hd)
  jobFits hs h hd := b.jobFits (a.slotFits hs hd) (a.jobFits hs h hd) (a.device hd)
  device h := b.device (a.device h)
  targets hd h := b.targets (a.device hd) (a.targets hd h)
  ranges hc hs hj h := b.ranges (a.curves hc) (a.slot hs) (a.job hs hj) (a.ranges hc hs hj h)

/-! ### Changes outside job, configuration and set-point fields -/

/-- The set-point fields, trims and hold flag of a record. -/
theorem exists_fixed {s t : State} (h : t.zones.map fixedPart = s.zones.map fixedPart) {r : ZoneRec} (hr : r ∈ t.zones) :
    ∃ q ∈ s.zones, fixedPart q = fixedPart r := by
  have hmem : fixedPart r ∈ t.zones.map fixedPart := List.mem_map_of_mem hr
  rw [h] at hmem
  exact List.mem_map.mp hmem

theorem fixedPart_eq_iff {q r : ZoneRec} :
    fixedPart q = fixedPart r ↔
      (q.unit = r.unit ∧ q.zone = r.zone) ∧
        (q.coverage = r.coverage ∧ q.effective = r.effective ∧ q.base = r.base ∧ q.target = r.target ∧ q.limit = r.limit) ∧
          q.consoleTrim = r.consoleTrim ∧ q.loopTrim = r.loopTrim ∧ q.loopHold = r.loopHold := by
  simp only [fixedPart, place, Prod.mk.injEq]

theorem zones_nil_iff_of_fixed {s t : State} (h : t.zones.map fixedPart = s.zones.map fixedPart) :
    t.zones = [] ↔ s.zones = [] := by
  rw [← List.map_eq_nil_iff (f := fixedPart), h, List.map_eq_nil_iff]

section
variable {s t : State}

/-- The device state's law reads configuration, job and the presence of zones. -/
theorem deviceOk_congr (h : DeviceOk s) (hdevice : t.device = s.device) (hnz : t.nz = s.nz) (hjob : t.job.isSome = s.job.isSome)
    (hzones : t.zones = [] ↔ s.zones = []) : DeviceOk t := by
  obtain ⟨h1, h2, h3⟩ := h
  refine ⟨?_, ?_, ?_⟩
  · rw [hdevice, hnz]
    exact h1
  · rw [hnz]
    exact hzones.trans h2
  · rw [hdevice, hjob]
    exact h3

theorem slotFits_congr (h : SlotFits s) (hslot : t.slot = s.slot) (hnz : t.nz = s.nz) : SlotFits t := by
  obtain ⟨⟩ := s
  obtain ⟨⟩ := t
  obtain rfl := hslot
  obtain rfl := hnz
  exact h

theorem jobFits_congr (h : JobFits s) (hjob : t.job = s.job) (hnz : t.nz = s.nz) : JobFits t := by
  obtain ⟨⟩ := s
  obtain ⟨⟩ := t
  obtain rfl := hjob
  obtain rfl := hnz
  exact h

/-- A change that keeps job, device state, configuration, set-point fields and trims. -/
theorem keeps_of_frame (hcurves : CurvesOk s → CurvesOk t) (hcal : CalibrationOk s → CalibrationOk t)
    (hlimits : LimitsOk s → LimitsOk t) (hreferenced : ReferencedDefined s → ReferencedDefined t) (hslot : SlotOk s → SlotOk t)
    (hfits : SlotFits s → SlotFits t) (hjob : t.job = s.job) (hdevice : t.device = s.device) (hnz : t.nz = s.nz)
    (hzones : t.zones.map fixedPart = s.zones.map fixedPart) (hecho : (∀ r ∈ s.zones, EchoOk r) → ∀ r ∈ t.zones, EchoOk r) :
    Keeps s t where
  curves := hcurves
  calibration := hcal
  limits := hlimits
  referenced := hreferenced
  slot := hslot
  slotFits h _ := hfits h
  job _ h := by
    rw [JobOk, hjob]
    exact h
  jobFits _ h _ := jobFits_congr h hjob hnz
  device h := deviceOk_congr h hdevice hnz (by rw [hjob]) (zones_nil_iff_of_fixed hzones)
  trims h r hr := by
    obtain ⟨q, hq, hqr⟩ := exists_fixed hzones hr
    obtain ⟨-, -, hconsole, hloop, -⟩ := fixedPart_eq_iff.mp hqr
    rw [← hconsole, ← hloop]
    exact h q hq
  targets _ h r hr := by
    obtain ⟨q, hq, hqr⟩ := exists_fixed hzones hr
    obtain ⟨-, ⟨-, -, -, htarget, -⟩, -⟩ := fixedPart_eq_iff.mp hqr
    rw [← htarget, hjob]
    exact h q hq
  ranges _ _ _ h := by
    obtain ⟨hunits, hrecords⟩ := h
    rw [RangesOk, hnz]
    refine ⟨hunits, fun r hr => ?_⟩
    obtain ⟨q, hq, hqr⟩ := exists_fixed hzones hr
    obtain ⟨-, ⟨hcov, heff, hbase, -⟩, -⟩ := fixedPart_eq_iff.mp hqr
    obtain ⟨hmeasured, hwidth⟩ := hecho (fun q hq => ⟨(hrecords q hq).2.2.2.1, (hrecords q hq).2.2.2.2⟩) r hr
    obtain ⟨h1, h2, h3, -⟩ := hrecords q hq
    rw [← hcov, ← heff, ← hbase]
    exact ⟨h1, h2, h3, hmeasured, hwidth⟩

/-- A change that leaves tables, parameters and slot as they are too. -/
theorem keeps_of_same (hcal : t.cal = s.cal) (hcurves : t.curves = s.curves) (hkept : t.kept = s.kept)
    (hlimits : t.limits = s.limits) (hloop : t.loop = s.loop) (hslot : t.slot = s.slot) (hjob : t.job = s.job)
    (hdevice : t.device = s.device) (hnz : t.nz = s.nz) (hzones : t.zones.map fixedPart = s.zones.map fixedPart)
    (hecho : (∀ r ∈ s.zones, EchoOk r) → ∀ r ∈ t.zones, EchoOk r) : Keeps s t := by
  refine keeps_of_frame (fun h => ?_) (fun h => ?_) (fun h => ?_) (fun h => ?_) (fun h => ?_)
      (fun h => slotFits_congr h hslot hnz)
    hjob hdevice hnz hzones hecho
  · unfold CurvesOk openWrites
    rw [hcurves, hkept]
    exact h
  · unfold CalibrationOk openWrites
    rw [hcal, hkept]
    exact h
  · unfold LimitsOk
    rw [hlimits, hloop]
    exact h
  · unfold ReferencedDefined State.curve?
    rw [hjob, hcurves]
    exact h
  · unfold SlotOk
    rw [hslot]
    exact h

theorem Keeps.refl (s : State) : Keeps s s := keeps_of_same rfl rfl rfl rfl rfl rfl rfl rfl rfl rfl id

/-- Every change of the Move Scheduler and the key lines. -/
theorem Sched.keeps (h : Sched s t) : Keeps s t := by
  have hrest := h.turns.rest
  refine keeps_of_same ?_ ?_ ?_ ?_ ?_ ?_ ?_ ?_ ?_ h.fixed h.echo
  all_goals rw [hrest]

end

/-! ### The set-point fields' ranges -/

/-- The opening of a curve at an effective coverage in its range (R62). -/
theorem curveOpening_le {c : Curve} (hc : CurveOk c) {e : Nat} (he : e ≤ 1000) : curveOpening c.points e ≤ 500 := by
  obtain ⟨-, -, -, h⟩ := curveStageInterpolates c e hc he
  exact h

/-- The curve of a slot is one of the table's. -/
theorem curve_mem {s : State} {k : Nat} {c : Curve} (h : s.curve? k = some c) : some c ∈ s.curves.toList := by
  unfold State.curve? at h
  rw [vector_getD] at h
  by_cases hk : k < 16
  · rw [Vector.getElem?_eq_getElem hk, Option.getD_some] at h
    rw [← h]
    simp
  · rw [Vector.getElem?_eq_none (by omega), Option.getD_none] at h
    cases h

section
variable {s : State} (hcoverage : ∀ r ∈ s.zones, r.coverage.getD 0 ≤ 1000)
include hcoverage

theorem coverageAt_le {u z c : Nat} (hc : c ≤ 1000) : (coverageAt s.zones u z).getD c ≤ 1000 := by
  unfold coverageAt
  cases hf : s.zones.find? (fun r => r.isZone u z) with
  | none => exact hc
  | some r =>
    have hr := hcoverage r (List.mem_of_find?_eq_some hf)
    rw [Option.bind_some]
    cases hcov : r.coverage with
    | none => exact hc
    | some v =>
      rw [hcov] at hr
      exact hr

/-- The spread stage gives a mean of its values (R59). -/
theorem spread_le {p : UnitParams} (hp : UnitParamsOk p) (u z : Nat) {c : Nat} (hc : c ≤ 1000) :
    spread s.zones p u z c ≤ 1000 := by
  obtain ⟨-, -, -, hs1, hs2, -⟩ := hp
  have hvalue : ∀ y, neighbourValue s.zones p u y c ≤ 1000 := fun y => by
    unfold neighbourValue
    split_ifs
    exacts [coverageAt_le hcoverage hc, hc]
  have hsum := weightedSum_between (w := 64 - 2 * p.s1 - 2 * p.s2) (a := p.s1) (b := p.s2) (n := 64) (lo := 0) (hi := 1000)
    (c := c) (x₁ := neighbourValue s.zones p u (z - 1) c) (x₂ := neighbourValue s.zones p u (z + 1) c)
    (y₁ := neighbourValue s.zones p u (z - 2) c) (y₂ := neighbourValue s.zones p u (z + 2) c) (by omega)
    (by simp [hvalue, hc])
  exact (roundHalfUp_between (by decide) hsum.1 hsum.2).2

/-- The fields of a set-point computation lie in their ranges. -/
theorem setPoint_ranges (hcurves : ∀ o ∈ s.curves.toList, ∀ c ∈ o, CurveOk c) {j : ActiveJob}
    (hparams : ∀ p ∈ j.records, UnitParamsOk p) {r : ZoneRec} (hr : r.coverage.getD 0 ≤ 1000) :
    (setPoint s j r).coverage.getD 0 ≤ 1000 ∧ (setPoint s j r).effective.getD 0 ≤ 1000 ∧ (setPoint s j r).base.getD 0 ≤ 5000 := by
  obtain hn | ⟨p, hp, hclosed | ⟨hfirst, hlast⟩⟩ := width_cases j r
  · rw [setPoint_of_unused hn]
    exact ⟨Nat.zero_le _, Nat.zero_le _, Nat.zero_le _⟩
  · rw [setPoint_of_closed hp hclosed]
    exact ⟨hr, hr, Nat.zero_le _⟩
  · have hpar : UnitParamsOk p := by
      refine hparams p ?_
      unfold ActiveJob.record? at hp
      split_ifs at hp
      exact List.mem_of_find?_eq_some hp
    have he : (openingOf s p r).1 ≤ 1000 := spread_le hcoverage hpar _ _ hr
    rw [setPoint_of_open hp hfirst hlast]
    refine ⟨hr, he, ?_⟩
    obtain ⟨-, hsweep, -⟩ := hpar
    cases hcurve : s.curve? p.curve with
    | none =>
      have hopening : (openingOf s p r).2 = sweepOpening 0 0 p.sweep := by
        rw [openingOf, hcurve]
        rfl
      change (openingOf s p r).2 ≤ 5000
      rw [hopening]
      exact sweepOpening_le (by omega) (by omega) hsweep
    | some c =>
      have hc := hcurves _ (curve_mem hcurve) c rfl
      have hopening : (openingOf s p r).2 = sweepOpening (curveOpening c.points (openingOf s p r).1) c.fref p.sweep := by
        rw [openingOf_of_curve hcurve]
        rfl
      obtain ⟨-, hfref, -⟩ := id hc
      change (openingOf s p r).2 ≤ 5000
      rw [hopening]
      exact sweepOpening_le (curveOpening_le hc he) hfref hsweep

end

end Sys2Proof.Claims
end

section
/-! PROOF. The effects of requests and commands on the laws of tables, parameters, slot, job and device state. -/

namespace Sys2Proof.Claims

open Sys2Proof.Machine Sys2Proof.Safety

/-! ### The two tables -/

theorem mem_set_cases {α : Type} {n : Nat} {v : Vector α n} {i : Nat} {x y : α} (h : y ∈ (v.setIfInBounds i x).toList) :
    y = x ∨ y ∈ v.toList := by
  obtain ⟨k, hk, rfl⟩ := List.mem_iff_getElem.mp h
  rw [Vector.getElem_toList, Vector.getElem_setIfInBounds]
  split_ifs
  · exact .inl rfl
  · exact .inr (by simp)

/-- Every entry of a calibration table is lawful. -/
abbrev CalTableOk (v : Vector (Vector CalEntry 36) 8) : Prop := ∀ row ∈ v.toList, ∀ e ∈ row.toList, CalOk e

/-- Every curve of a curve table is lawful. -/
abbrev CurveTableOk (v : Vector (Option Curve) 16) : Prop := ∀ o ∈ v.toList, ∀ c ∈ o, CurveOk c

theorem curveTableOk_set {v : Vector (Option Curve) 16} (h : CurveTableOk v) (k : Nat) {c : Option Curve} (hc : ∀ x ∈ c,
    CurveOk x) :
    CurveTableOk (v.setIfInBounds k c) := by
  intro o ho
  rcases mem_set_cases ho with rfl | ho
  · exact hc
  · exact h o ho

theorem row_mem_or_powerOn (v : Vector (Vector CalEntry 36) 8) (u : Nat) :
    at1 v u (Vector.replicate 36 .powerOn) ∈ v.toList ∨
      at1 v u (Vector.replicate 36 .powerOn) = Vector.replicate 36 .powerOn := by
  unfold at1
  split_ifs
  · exact .inr rfl
  · rw [vector_getD]
    by_cases hu : u - 1 < 8
    · rw [Vector.getElem?_eq_getElem hu, Option.getD_some]
      exact .inl (by simp)
    · rw [Vector.getElem?_eq_none (by omega), Option.getD_none]
      exact .inr rfl

theorem calTableOk_put {v : Vector (Vector CalEntry 36) 8} (h : CalTableOk v) (u z : Nat) {e : CalEntry} (he : CalOk e) :
    CalTableOk (putCal v u z e) := by
  intro row hrow
  rcases mem_put1 hrow with rfl | hrow
  · intro x hx
    rcases mem_put1 hx with rfl | hx
    · exact he
    · rcases row_mem_or_powerOn v u with hmem | hdefault
      · exact h _ hmem x hx
      · rw [hdefault] at hx
        exact forall_mem_replicate (P := CalOk) calOk_powerOn x hx
  · exact h row hrow

/-- An entry of a lawful table is lawful, the power-on entry outside it too. -/
theorem calOk_calAt {v : Vector (Vector CalEntry 36) 8} (h : CalTableOk v) (u z : Nat) : CalOk (calAt v u z) := by
  have hrow : ∀ x ∈ (at1 v u (Vector.replicate 36 .powerOn)).toList, CalOk x := by
    rcases row_mem_or_powerOn v u with hmem | hdefault
    · exact h _ hmem
    · rw [hdefault]
      exact forall_mem_replicate calOk_powerOn
  unfold calAt
  rw [at1]
  split_ifs
  · exact calOk_powerOn
  · rw [vector_getD]
    by_cases hz : z - 1 < 36
    · rw [Vector.getElem?_eq_getElem hz, Option.getD_some]
      exact hrow _ (by simp)
    · rw [Vector.getElem?_eq_none (by omega), Option.getD_none]
      exact calOk_powerOn

/-- A write is lawful: its curve and its entry are. -/
abbrev WriteOk (w : TableWrite) : Prop := (∀ c ∈ writtenCurve w, CurveOk c) ∧ ∀ e ∈ writtenCal w, CalOk e

theorem writtenCurve_ok_of {x : State} (h : CurvesOk x) {w : TableWrite} (hw : WriteOf x w) : ∀ c ∈ writtenCurve w,
    CurveOk c := by
  intro c hc
  rcases hw with ⟨k, rfl⟩ | ⟨u, z, rfl⟩
  · exact h.1 _ (curve_mem hc) c rfl
  · cases hc

theorem writtenCal_ok_of {x : State} (h : CalibrationOk x) {w : TableWrite} (hw : WriteOf x w) : ∀ e ∈ writtenCal w, CalOk e := by
  intro e he
  rcases hw with ⟨k, rfl⟩ | ⟨u, z, rfl⟩
  · cases he
  · obtain rfl := Option.some.inj he
    exact calOk_calAt h.1 u z

/-- The end of an execution stores a write under way and drops others. -/
theorem finish_cases (k : Kept) (p : Port) :
    k.finish p = k ∨ ∃ w ∈ k.underWay.map Prod.snd, ∃ l : List (Port × TableWrite),
      k.finish p = { k.store w with underWay := l } ∧ ∀ e ∈ l, e ∈ k.underWay := by
  by_cases h : ∀ e ∈ k.underWay, e.1 ≠ p
  · exact .inl (Kept.finish_of_none h)
  · obtain ⟨before, e, after, hk, hp, hbefore⟩ : ∃ before e after, k.underWay = before ++ e :: after ∧ e.1 = p ∧
        ∀ e ∈ before, e.1 ≠ p := by
      obtain ⟨e, he⟩ : ∃ e, k.underWay.find? (fun e => e.1 == p) = some e := by
        rw [← Option.isSome_iff_exists, List.find?_isSome]
        push Not at h
        obtain ⟨e, he, hp⟩ := h
        exact ⟨e, he, beq_iff_eq.mpr hp⟩
      obtain ⟨hp, before, after, hk, hbefore⟩ := List.find?_eq_some_iff_append.mp he
      exact ⟨before, e, after, hk, beq_iff_eq.mp hp, fun e he => by simpa using hbefore e he⟩
    obtain ⟨q, w⟩ := e
    obtain rfl : q = p := hp
    refine .inr ⟨w, ?_, _, Kept.finish_of_split hk hbefore, fun e he => ?_⟩
    · rw [hk]
      simp
    · rw [hk]
      rcases List.mem_append.mp he with he | he
      · exact List.mem_append.mpr (.inl (List.mem_filter.mp he).1)
      · exact List.mem_append.mpr (.inr (List.mem_cons_of_mem _ he))

section
variable {s t : State}

/-- The laws of the curves after an execution has ended (log 7). -/
theorem curvesOk_finish (h : CurvesOk s) (p : Port) (hcurves : t.curves = s.curves) (hkept : t.kept = s.kept.finish p) :
    CurvesOk t := by
  obtain ⟨htable, hkeptTable, hopen⟩ := h
  unfold CurvesOk openWrites
  rw [hcurves, hkept]
  obtain he | ⟨w, hw, l, he, hl⟩ := finish_cases s.kept p
  · rw [he]
    exact ⟨htable, hkeptTable, hopen⟩
  · rw [he]
    refine ⟨htable, ?_, fun v hv => ?_⟩
    · cases w with
      | curve k c => exact curveTableOk_set hkeptTable k (hopen _ hw)
      | cal u z e => exact hkeptTable
    · obtain ⟨e, he, rfl⟩ := List.mem_map.mp hv
      exact hopen _ (List.mem_map_of_mem (hl e he))

theorem calibrationOk_finish (h : CalibrationOk s) (p : Port) (hcal : t.cal = s.cal) (hkept : t.kept = s.kept.finish p) :
    CalibrationOk t := by
  obtain ⟨htable, hkeptTable, hopen⟩ := h
  unfold CalibrationOk openWrites
  rw [hcal, hkept]
  obtain he | ⟨w, hw, l, he, hl⟩ := finish_cases s.kept p
  · rw [he]
    exact ⟨htable, hkeptTable, hopen⟩
  · rw [he]
    refine ⟨htable, ?_, fun v hv => ?_⟩
    · cases w with
      | curve k c => exact hkeptTable
      | cal u z e => exact calTableOk_put hkeptTable u z (hopen _ hw e rfl)
    · obtain ⟨e, he, rfl⟩ := List.mem_map.mp hv
      exact hopen _ (List.mem_map_of_mem (hl e he))

/-- The port's execution begins: its write is one of the tables as they stand. -/
theorem keeps_beginExecution (p : Port) (code : BitVec 8) (tag : BitVec 4) (a : Answer) (w : Option TableWrite)
    (hw : ∀ v ∈ w, WriteOf s v) : Keeps s (s.beginExecution p code tag a w) := by
  have hopen : ∀ v ∈ openWrites (s.beginExecution p code tag a w), v ∈ openWrites s ∨ WriteOf s v := by
    intro v hv
    change v ∈ (s.kept.note p w).underWay.map Prod.snd at hv
    rw [Kept.underWay_note, List.map_append] at hv
    rcases List.mem_append.mp hv with hv | hv
    · exact .inl hv
    · right
      cases w with
      | none => cases hv
      | some x =>
        obtain rfl : v = x := by simpa using hv
        exact hw v rfl
  refine keeps_of_frame (fun h => ⟨h.1, ?_, fun v hv => ?_⟩) (fun h => ⟨h.1, ?_, fun v hv => ?_⟩) id id id id rfl rfl rfl rfl id
  · change CurveTableOk (s.kept.note p w).curves
    rw [Kept.note_curves]
    exact h.2.1
  · rcases hopen v hv with hv | hv
    exacts [h.2.2 v hv, writtenCurve_ok_of h hv]
  · change CalTableOk (s.kept.note p w).cal
    rw [Kept.note_cal]
    exact h.2.1
  · rcases hopen v hv with hv | hv
    exacts [h.2.2 v hv, writtenCal_ok_of h hv]

/-- The end of an execution. -/
theorem keeps_ended (s : State) (p : Port) : Keeps s ((s.commit p).modPort p PortCtl.finish) := by
  have hkept : ((s.commit p).modPort p PortCtl.finish).kept = s.kept ∨
      ((s.commit p).modPort p PortCtl.finish).kept = s.kept.finish p := by
    change (s.commit p).kept = _ ∨ (s.commit p).kept = _
    unfold State.commit
    split_ifs
    exacts [.inr rfl, .inl rfl]
  have hframe : (s.commit p).modPort p PortCtl.finish =
      { s with ports := ((s.commit p).modPort p PortCtl.finish).ports, kept :=
          ((s.commit p).modPort p PortCtl.finish).kept } := by
    unfold State.commit
    split_ifs <;> rfl
  generalize (s.commit p).modPort p PortCtl.finish = t at hkept hframe
  rw [hframe]
  rcases hkept with hkept | hkept
  · exact keeps_of_same rfl rfl hkept rfl rfl rfl rfl rfl rfl rfl id
  · exact keeps_of_frame (fun h => curvesOk_finish h p rfl hkept) (fun h => calibrationOk_finish h p rfl hkept) id id id id
      rfl rfl rfl rfl id

/-- A reset keeps what the account of the kept tables keeps (log 7). -/
theorem keeps_reset {t' : State} (hframe : t' = { State.reset with
      pending := s.pending, clock := t'.clock, cal := t'.cal, curves := t'.curves, kept := t'.kept
      supply := { State.reset.supply with ok := t'.supply.ok }, press := t'.press })
    (htables : (t'.cal = State.reset.cal ∧ t'.curves = State.reset.curves ∧ t'.kept = State.reset.kept) ∨
      t'.cal = s.kept.cal ∧ t'.curves = s.kept.curves ∧ t'.kept = s.kept.discard) : Keeps s t' := by
  obtain ⟨-, hcurves, hcal, hlimits, htrims, hreferenced, hslot, hjob, hslotFits, hjobFits, -, hdevice, htargets, hranges, -⟩ :=
    resetStateSatisfiesTheLaws
  have hcurvesOk : CurvesOk s → CurvesOk t' := fun h => by
    unfold CurvesOk openWrites
    rcases htables with ⟨-, h1, h2⟩ | ⟨-, h1, h2⟩
    · rw [h1, h2]
      exact hcurves
    · rw [h1, h2]
      exact ⟨h.2.1, h.2.1, nofun⟩
  have hcalOk : CalibrationOk s → CalibrationOk t' := fun h => by
    unfold CalibrationOk openWrites
    rcases htables with ⟨h1, -, h2⟩ | ⟨h1, -, h2⟩
    · rw [h1, h2]
      exact hcal
    · rw [h1, h2]
      exact ⟨h.2.1, h.2.1, nofun⟩
  have hnone : t'.job = none := by rw [hframe]; rfl
  refine ⟨hcurvesOk, hcalOk, fun _ => ?_, fun _ => ?_, fun _ => ?_, fun _ => ?_, fun _ _ => ?_, fun _ _ => ?_, fun _ _ _ => ?_,
    fun _ => ?_, fun _ _ => ?_, fun _ _ _ _ => ?_⟩
  · rw [hframe]
    exact hlimits
  · rw [hframe]
    exact htrims
  · intro j hj
    rw [hnone] at hj
    cases hj
  · rw [hframe]
    exact hslot
  · intro j hj
    rw [hnone] at hj
    cases hj
  · rw [hframe]
    exact hslotFits
  · intro j hj
    rw [hnone] at hj
    cases hj
  · rw [hframe]
    exact hdevice
  · rw [hframe]
    exact htargets
  · rw [hframe]
    exact hranges

end

end Sys2Proof.Claims
end

section
/-! PROOF. What requests keep of the laws of tables, parameters, slot, job and device state, and so every command. -/

namespace Sys2Proof.Claims

open Sys2Proof.Machine Sys2Proof.Safety

/-! ### Zone records rewritten -/

section
variable {s : State}

/-- Target present exactly while there is a job, and in its range (R6, R9). -/
abbrev TargetFits (job : Option ActiveJob) (r : ZoneRec) : Prop := r.target.isSome = job.isSome ∧ r.target.getD 0 ≤ 500

/-- The fields of a record in the ranges of R6. -/
abbrev FieldRanges (r : ZoneRec) : Prop :=
  r.coverage.getD 0 ≤ 1000 ∧ r.effective.getD 0 ≤ 1000 ∧ r.base.getD 0 ≤ 5000 ∧ r.measured.getD 0 ≤ 500 ∧
    ∀ w ∈ r.echoWidth, 200 ≤ w ∧ w ≤ 8191

/-- What holds of the records holds of their changed ones. -/
theorem forall_map_of {P Q : ZoneRec → Prop} {h : ZoneRec → ZoneRec} {l : List ZoneRec} (hP : ∀ r ∈ l, P r)
    (hstep : ∀ r ∈ l, P r → Q (h r)) : ∀ r ∈ l.map h, Q r := by
  intro r hr
  obtain ⟨q, hq, rfl⟩ := List.mem_map.mp hr
  exact hstep q hq (hP q hq)

/-- Records changed one by one. -/
theorem keeps_map {h : ZoneRec → ZoneRec} (htrims : ∀ r ∈ s.zones, TrimsInRange r → TrimsInRange (h r))
    (htargets : ∀ r ∈ s.zones, TargetFits s.job r → TargetFits s.job (h r))
    (hranges : CurvesOk s → JobOk s → (∀ r ∈ s.zones, FieldRanges r) → ∀ r ∈ s.zones, FieldRanges (h r)) :
    Keeps s { s with zones := s.zones.map h } where
  curves h := h
  calibration h := h
  limits h := h
  trims ht := forall_map_of ht htrims
  referenced h := h
  slot h := h
  job _ h := h
  slotFits h _ := h
  jobFits _ h _ := h
  device hd := deviceOk_congr hd rfl rfl rfl List.map_eq_nil_iff
  targets _ ht := forall_map_of ht htargets
  ranges hc _ hj hr := ⟨hr.1, forall_map_of hr.2 fun r hmem _ => hranges hc hj hr.2 r hmem⟩

/-- Loop hold flags stand in no law (R80). -/
theorem keeps_loopHold {g : ZoneRec → ZoneRec} (hg : LoopHoldOnly g) : Keeps s { s with zones := s.zones.map g } :=
  keeps_map (fun r _ h => by rw [hg r]; exact h) (fun r _ h => by rw [hg r]; exact h) fun _ _ h r hr => by
    rw [hg r]
    exact h r hr

/-- Trims written in their ranges (R76, R79, R101). -/
theorem keeps_writtenTrims {g : ZoneRec → ZoneRec} (hg : TrimsOnly g) (hrange : ∀ r ∈ s.zones, TrimsInRange r → TrimsInRange
    (g r)) :
    Keeps s { s with zones := s.zones.map g } :=
  keeps_map hrange (fun r _ h => by rw [hg r]; exact h) fun _ _ h r hr => by
    rw [hg r]
    exact h r hr

theorem setPoint_trims (s : State) (j : ActiveJob) {r : ZoneRec} (h : TrimsInRange r) : TrimsInRange (setPoint s j r) := by
  rw [setPoint_frame s j r]
  exact h

theorem setPoint_targetFits (s : State) (j : ActiveJob) (r : ZoneRec) : TargetFits (some j) (setPoint s j r) := by
  obtain ⟨t, ht, hle⟩ := setPoint_target s j r
  rw [TargetFits, ht]
  exact ⟨rfl, hle⟩

theorem setPoint_fieldRanges {j : ActiveJob} (hcurves : CurvesOk s) (hjob : UnitRecordsOk j.units j.records)
    (hcoverage : ∀ r ∈ s.zones, r.coverage.getD 0 ≤ 1000) {r : ZoneRec} (hr : r.coverage.getD 0 ≤ 1000) (he : EchoOk r) :
    FieldRanges (setPoint s j r) := by
  obtain ⟨-, -, hparams⟩ := hjob
  obtain ⟨hcov, heff, hbase⟩ := setPoint_ranges hcoverage hcurves.1 (j := j) (fun p hp => (hparams p hp).2) hr
  refine ⟨hcov, heff, hbase, ?_⟩
  rw [setPoint_frame s j r]
  exact he

/-- A recomputation (R69). -/
theorem keeps_recompute (s : State) (p : ZoneRec → Bool) : Keeps s (s.recompute p).1 := by
  obtain hj | ⟨j, hj⟩ := Option.eq_none_or_eq_some s.job
  · have he : s.recompute p = (s, []) := by rw [State.recompute, hj]
    rw [he]
    exact .refl s
  · rw [recompute_of_job p hj]
    refine keeps_map (fun r hr h => ?_) (fun r hr h => ?_) fun hcurves hjob h r hr => ?_
    all_goals split_ifs
    · exact setPoint_trims s j h
    · exact h
    · rw [hj]
      exact setPoint_targetFits s j r
    · exact h
    · exact setPoint_fieldRanges hcurves (hjob j hj).1 (fun r hr => (h r hr).1) (h r hr).1 (h r hr).2.2.2
    · exact h r hr

/-- A unit record with another sweep (R49). -/
theorem mem_setSweep {j : ActiveJob} {u sweep : Nat} {p : UnitParams} (h : p ∈ (j.setSweep u sweep).records) :
    ∃ q ∈ j.records, p = q ∨ p = { q with sweep := sweep } := by
  obtain ⟨q, hq, rfl⟩ := List.mem_map.mp h
  refine ⟨q, hq, ?_⟩
  split_ifs
  exacts [.inr rfl, .inl rfl]

theorem setSweep_units (j : ActiveJob) (u sweep : Nat) :
    (j.setSweep u sweep).records.map UnitParams.unit = j.records.map UnitParams.unit := by
  rw [ActiveJob.setSweep, List.map_map]
  refine List.map_congr_left fun p _ => ?_
  rw [Function.comp_apply]
  split_ifs <;> rfl

/-- A new sweep of the active job (R49). -/
theorem keeps_sweptJob {j : ActiveJob} (hj : s.job = some j) (u : Nat) {sweep : Nat} (hsweep : 10 ≤ sweep ∧ sweep ≤ 100) :
    Keeps s (sweptJob s j u sweep) := by
  have hjob : ∀ {P : ActiveJob → Prop}, (P (j.setSweep u sweep)) → ∀ k ∈ (sweptJob s j u sweep).job, P k := fun h k hk => by
    obtain rfl := Option.some.inj hk
    exact h
  have hsome : (sweptJob s j u sweep).job.isSome = s.job.isSome := by rw [hj]; rfl
  refine ⟨id, id, id, id, fun h => hjob fun p hp => ?_, id, fun _ h => hjob ⟨?_, fun v hv => ?_⟩, fun h _ => h,
    fun _ h _ => hjob ?_, fun h => deviceOk_congr h rfl rfl hsome Iff.rfl, fun _ h r hr => ?_, fun _ _ _ h => h⟩
  · obtain ⟨q, hq, rfl | rfl⟩ := mem_setSweep hp
    exacts [h j hj _ hq, h j hj q hq]
  · obtain ⟨⟨hunits, hnodup, hparams⟩, -⟩ := h j hj
    refine ⟨hunits, by rw [setSweep_units]; exact hnodup, fun p hp => ?_⟩
    obtain ⟨q, hq, rfl | rfl⟩ := mem_setSweep hp
    · exact hparams p hq
    · obtain ⟨hunit, hcurve, -, -, hrest⟩ := hparams q hq
      exact ⟨hunit, hcurve, hsweep.1, hsweep.2, hrest⟩
  · obtain ⟨-, hall⟩ := h j hj
    obtain ⟨p, hp, hpv⟩ := hall v hv
    have hmem : v ∈ (j.setSweep u sweep).records.map UnitParams.unit := by
      rw [setSweep_units]
      exact List.mem_map.mpr ⟨p, hp, hpv⟩
    obtain ⟨q, hq, hqv⟩ := List.mem_map.mp hmem
    exact ⟨q, hq, hqv⟩
  · obtain ⟨hlist, hwidths⟩ := h j hj
    refine ⟨hlist, fun p hp => ?_⟩
    obtain ⟨q, hq, rfl | rfl⟩ := mem_setSweep hp
    exacts [hwidths _ hq, hwidths q hq]
  · rw [hsome]
    exact h r hr

/-- The active job removed (R48). -/
theorem keeps_endedJob {j : ActiveJob} (hj : s.job = some j) : Keeps s (endedJob s) where
  curves h := h
  calibration h := h
  limits h := h
  trims h := forall_map_of h fun _ _ h => h
  referenced _ := nofun
  slot h := h
  job _ _ := nofun
  slotFits h _ := h
  jobFits _ _ _ := nofun
  device h := by
    obtain ⟨hunconfigured, hzones, hactive⟩ := h
    have hne : s.nz ≠ [] := fun e => by
      have hstate := hunconfigured.mpr e
      rw [hactive.mpr (by rw [hj]; rfl)] at hstate
      cases hstate
    exact ⟨iff_of_false nofun hne, List.map_eq_nil_iff.trans hzones, iff_of_false nofun nofun⟩
  targets _ h := forall_map_of h fun _ _ _ => ⟨rfl, Nat.zero_le _⟩
  ranges _ _ _ h := ⟨h.1, forall_map_of h.2 fun _ _ h => ⟨Nat.zero_le _, Nat.zero_le _, Nat.zero_le _, h.2.2.2⟩⟩

theorem trimsInRange_zero : (-100 : Int) ≤ 0 ∧ (0 : Int) ≤ 100 ∧ (-60 : Int) ≤ 0 ∧ (0 : Int) ≤ 60 := by decide

/-- A value of a coverage stream is one of its values (R38). -/
theorem streamAt_mem {nzOf : Nat → Nat} {units stream : List Nat} {u z v : Nat} (h : streamAt nzOf units stream u z = some v) :
    v ∈ stream := by
  induction units generalizing stream with
  | nil => cases h
  | cons w rest ih =>
    rw [streamAt] at h
    split_ifs at h
    · exact List.mem_of_getElem? h
    · exact List.mem_of_mem_drop (ih h)

/-- A staged job taken (R46). -/
theorem keeps_take {c : Stage} (hslot : s.slot = .complete c) (hdefined : undefinedUses s c = []) (hdevice :
    s.device ≠ .unconfigured) :
    Keeps s (s.take c).1 := by
  have hcontent : c ∈ s.slot.content := by rw [hslot]; rfl
  have hcompleted : c ∈ completed s.slot := by rw [hslot]; rfl
  have hjob : ∀ {P : ActiveJob → Prop}, P c.asJob → ∀ k ∈ (s.take c).1.job, P k := fun h k hk => by
    obtain rfl := Option.some.inj hk
    exact h
  have hzones := take_zones s c
  refine ⟨id, id, id, fun h => ?_, fun h => hjob fun p hp => ?_, fun _ => ⟨nofun, nofun⟩, fun h _ => hjob ?_, fun _ _ => nofun,
    fun h _ _ => hjob ?_, fun h => ?_, fun _ h => ?_, fun hcurves hs _ h => ⟨h.1, ?_⟩⟩
  · rw [TrimsOk, hzones]
    refine forall_map_of (P := TrimsInRange) ?_ fun r _ h => setPoint_trims _ _ h
    exact forall_map_of h fun _ _ _ => trimsInRange_zero
  · change (s.curve? p.curve).isSome = true
    by_contra hn
    have hmem : p ∈ undefinedUses s c := List.mem_filter.mpr ⟨hp, by simpa using hn⟩
    rw [hdefined] at hmem
    cases hmem
  · exact ⟨(h.1 c hcontent).2.2.2, (h.2 c hcompleted).2⟩
  · exact ⟨(h c hcontent).1, (h c hcontent).2.2⟩
  · obtain ⟨hunconfigured, hnone, -⟩ := h
    have hne : s.nz ≠ [] := fun e => hdevice (hunconfigured.mpr e)
    refine ⟨iff_of_false nofun hne, ?_, iff_of_true rfl rfl⟩
    rw [hzones, takenZones, List.map_eq_nil_iff, List.map_eq_nil_iff]
    exact hnone
  · rw [TargetsOk, hzones]
    exact forall_map_of (P := fun _ => True) (fun _ _ => trivial) fun r _ _ => setPoint_targetFits _ _ r
  · obtain ⟨⟨-, hvalues, -, hrecords⟩, -⟩ := And.intro (hs.1 c hcontent) trivial
    have hstream : ∀ r ∈ s.zones, (takenRecord s.zonesOf c r).coverage.getD 0 ≤ 1000 := fun r _ => by
      change (streamAt s.zonesOf c.units c.stream r.unit r.zone).getD 0 ≤ 1000
      cases hv : streamAt s.zonesOf c.units c.stream r.unit r.zone with
      | none => exact Nat.zero_le _
      | some v => exact hvalues v (streamAt_mem hv)
    have htaken : ∀ r ∈ takenZones s c, r.coverage.getD 0 ≤ 1000 ∧ EchoOk r :=
      forall_map_of h.2 fun r hr h => ⟨hstream r hr, h.2.2.2⟩
    rw [hzones]
    exact forall_map_of htaken fun r _ h =>
      setPoint_fieldRanges (s := { s with zones := takenZones s c }) hcurves hrecords (fun q hq => (htaken q hq).1) h.1 h.2

theorem keeps_handBatch (s : State) (batch : List (Nat × Nat)) : Keeps s (s.handBatch batch) := (sched_handBatch s batch).keeps

/-- A configuration of an unconfigured part (R3, R4). -/
theorem keeps_configured (hdevice : s.device = .unconfigured) {nz : List Nat} (hlen : 1 ≤ nz.length) (hnz : ∀ k ∈ nz,
    12 ≤ k ∧ k ≤ 36) :
    Keeps s (s.configured nz) := by
  have hcreated : ∀ {P : ZoneRec → Prop}, (∀ u z, P (ZoneRec.created u z)) → ∀ r ∈ (s.configured nz).zones, P r :=
    fun hP r hr => by
      obtain ⟨he, -⟩ := mem_createdZones.mp hr
      rw [he]
      exact hP _ _
  have hne : nz ≠ [] := List.ne_nil_of_length_pos hlen
  have hjob : DeviceOk s → s.job = none := fun h => by
    by_contra hsome
    have hactive := h.2.2.mpr (Option.ne_none_iff_isSome.mp hsome)
    rw [hdevice] at hactive
    cases hactive
  refine ⟨id, id, id, fun _ => hcreated fun _ _ => trimsInRange_zero, id, id, fun _ h => h, fun h hd c hc => ?_,
      fun _ _ hd j hj => ?_,
    fun hd => ⟨iff_of_false nofun hne, iff_of_false ?_ hne, iff_of_false nofun ?_⟩, fun hd _ => hcreated fun _ _ => ?_,
    fun _ _ _ h => ⟨hnz, hcreated fun _ _ => ⟨Nat.zero_le _, Nat.zero_le _, Nat.zero_le _, Nat.zero_le _, nofun⟩⟩⟩
  · obtain ⟨⟨hone, -, -, hlisted⟩, -⟩ := h c hc
    obtain ⟨v, hv⟩ := List.exists_mem_of_length_pos hone
    obtain ⟨h1, h2⟩ := hlisted v hv
    rw [hd.1.mp hdevice] at h2
    exact absurd h2 (by simp; omega)
  · have hnone : (s.configured nz).job = none := hjob hd
    rw [hnone] at hj
    cases hj
  · intro e
    have hlength := createdZones_length nz
    rw [show createdZones nz = [] from e] at hlength
    obtain ⟨k, hk⟩ := List.exists_mem_of_length_pos hlen
    have hle := List.single_le_sum (fun _ _ => Nat.zero_le _) k hk
    have hk12 := (hnz k hk).1
    simp only [List.length_nil] at hlength
    omega
  · change ¬ s.job.isSome = true
    rw [hjob hd]
    nofun
  · change none.isSome = s.job.isSome ∧ _
    rw [hjob hd]
    exact ⟨rfl, Nat.zero_le _⟩

theorem curve?_setCurve_other {s : State} {k i : Nat} (c : Option Curve) (h : i ≠ k) :
    (s.setCurve k c).curve? i = s.curve? i := by
  unfold State.curve? State.setCurve
  rw [vector_getD, vector_getD, Vector.getElem?_setIfInBounds_ne (Ne.symm h)]

/-- A curve slot written that no used unit names (R24, R25). -/
theorem keeps_setCurve (k : Nat) {c : Option Curve} (hok : ∀ x ∈ c, CurveOk x) (hfree : s.activeUses k = 0) :
    Keeps s (s.setCurve k c) := by
  refine keeps_of_frame (fun h => ⟨curveTableOk_set h.1 k hok, h.2.1, h.2.2⟩) id id
      (fun h j hj p hp => ?_) id id rfl rfl rfl rfl id
  have hother : p.curve ≠ k := by
    intro e
    have hcount : j.records.countP (fun p => p.curve == k) = 0 := by
      rw [State.activeUses, show s.job = some j from hj] at hfree
      exact hfree
    exact List.countP_eq_zero.mp hcount p hp (beq_iff_eq.mpr e)
  rw [curve?_setCurve_other c hother]
  exact h j hj p hp

/-- What an executed request leaves keeps the laws. -/
theorem BodyEffect.keeps {q : Req} {x : State} (hx : BodyEffect q s x) : Keeps s x := by
  cases hx with
  | same => exact .refl s
  | slot sl ps hslot hfits =>
    exact keeps_of_frame id id id id (fun h => hslot h) (fun h => hfits h) rfl rfl rfl rfl id
  | discard hq =>
    exact keeps_of_frame id id id id (fun _ => slotOk_of_none rfl) (fun _ => slotFits_of_none rfl) rfl rfl rfl rfl id
  | curve k c hok hfree => exact keeps_setCurve k hok hfree
  | limits l hok => exact keeps_of_frame id id (fun h => ⟨hok, h.2⟩) id id id rfl rfl rfl rfl id
  | loop l hok => exact keeps_of_frame id id (fun h => ⟨h.1, hok⟩) id id id rfl rfl rfl rfl id
  | retry hfailed =>
    rw [retrySupply_frame]
    exact keeps_of_same rfl rfl rfl rfl rfl rfl rfl rfl rfl rfl id
  | configure nz hdevice hlen hnz => exact keeps_configured hdevice hlen.1 hnz
  | loopHold g hg => exact keeps_loopHold hg
  | addDisable hr hs => exact (sched_addDisable hr hs).keeps
  | service x hsched hmoves => exact (hsched.trans (.settle x)).keeps
  | cal u z e he =>
    exact keeps_of_frame id (fun h => ⟨calTableOk_put h.1 u z he, h.2.1, h.2.2⟩) id id id id rfl rfl rfl rfl id
  | calService u z e he x hsched hmoves =>
    have hcal : Keeps s (s.setCalEntry u z e) :=
      keeps_of_frame id (fun h => ⟨calTableOk_put h.1 u z he, h.2.1, h.2.2⟩) id id id id rfl rfl rfl rfl id
    exact hcal.trans (hsched.trans (.settle x)).keeps
  | trims g hg hrange =>
    exact ((keeps_writtenTrims hg hrange).trans (keeps_recompute _ _)).trans (keeps_handBatch _ _)
  | endJob j hj => exact (keeps_endedJob hj).trans (keeps_handBatch _ _)
  | sweep u sweep j p hj hp hsweep =>
    exact ((keeps_sweptJob hj u hsweep).trans (keeps_recompute _ _)).trans (keeps_handBatch _ _)
  | take c hslot hdefined hdevice =>
    exact ((keeps_take hslot hdefined hdevice).trans (Sched.post _ .jobTaken).keeps).trans (keeps_handBatch _ _)
  | _ => exact keeps_of_same rfl rfl rfl rfl rfl rfl rfl rfl rfl rfl id

/-! ### Commands -/

theorem keeps_supplyLoss (s : State) : Keeps s s.supplyLoss := by
  let failed : State := { s with supply := { s.supply with state := .failed, warmUp := none, standby := none } }
  have hfold : Sched failed (failed.zoneIds.foldl (fun t q => t.loseZone q.1 q.2) failed) :=
    sched_foldl (f := fun (t : State) (q : Nat × Nat) => t.loseZone q.1 q.2) (fun t q => sched_loseZone t q.1 q.2) _ _
  have hfailed : Keeps s failed := keeps_of_same rfl rfl rfl rfl rfl rfl rfl rfl rfl rfl id
  exact hfailed.trans ((hfold.trans (.post _ _)).trans (.settle _)).keeps

theorem sched_freezeAsserted (s : State) : Sched s s.freezeAsserted :=
  (sched_foldl (f := fun (t : State) (q : Nat × Nat) => t.freezeZone q.1 q.2) (fun t q => sched_freezeZone t q.1 q.2) _ _).trans
    (.settle _)

/-- Every command keeps the laws. -/
theorem Effect.keeps {t : State} (ht : Effect s t) : Keeps s t := by
  cases ht with
  | quiet hframe hfreeze hphase hbusy =>
    rw [hframe]
    exact keeps_of_same rfl rfl rfl rfl rfl rfl rfl rfl rfl rfl id
  | ended p => exact keeps_ended s p
  | reset hframe htables => exact keeps_reset hframe htables
  | sched x hsched hlines => exact (hsched.trans (.settle x)).keeps
  | line u l hlines => exact (Sched.setLine s u l).keeps
  | grant u hpick hlines => exact (Sched.grant hpick).keeps
  | freezeOn l hl =>
    have hlevel : Keeps s { s with press := { s.press with freeze := l } } :=
      keeps_of_same rfl rfl rfl rfl rfl rfl rfl rfl rfl rfl id
    exact hlevel.trans ((sched_freezeAsserted _).trans (.post _ _)).keeps
  | freezeOff l hl =>
    have hlevel : Keeps s { s with press := { s.press with freeze := l } } :=
      keeps_of_same rfl rfl rfl rfl rfl rfl rfl rfl rfl rfl id
    exact hlevel.trans (Sched.post _ _).keeps
  | supplyOn l hw =>
    have hon : Keeps s { s with supply := { s.supply with ok := l, state := .on, warmUp := none } } :=
      keeps_of_same rfl rfl rfl rfl rfl rfl rfl rfl rfl rfl id
    exact hon.trans (Sched.settle _).keeps
  | supplyLost l hon =>
    have hlevel : Keeps s { s with supply := { s.supply with ok := l } } :=
      keeps_of_same rfl rfl rfl rfl rfl rfl rfl rfl rfl rfl id
    exact hlevel.trans (keeps_supplyLoss _)
  | warmUpOver hw =>
    have hfailed : Keeps s { s with supply := { s.supply with state := .failed, warmUp := none } } :=
      keeps_of_same rfl rfl rfl rfl rfl rfl rfl rfl rfl rfl id
    exact hfailed.trans (Sched.post _ _).keeps
  | standbyOver hs => exact keeps_of_same rfl rfl rfl rfl rfl rfl rfl rfl rfl rfl id
  | request p code tag a x w hbody hrun hw hfree =>
    have hshift : Keeps s (s.shiftZero p) := keeps_of_same rfl rfl rfl rfl rfl rfl rfl rfl rfl rfl id
    exact (hshift.trans hbody.keeps).trans (keeps_beginExecution p code tag a w hw)

end

/-- Settles O56: by the form of each command's effect. -/
theorem everyStepKeepsTheTableLaws : Obligations.EveryStepKeepsTheTableLaws := by
  intro s t h
  have hkeeps : Keeps s t := by
    obtain ⟨-, rfl⟩ | ⟨c, rest, -, hexec⟩ := step_cases h
    · exact (effect_tick s).keeps
    · have hrest : Keeps s { s with pending := rest } := keeps_of_same rfl rfl rfl rfl rfl rfl rfl rfl rfl rfl id
      exact hrest.trans (exec_effect hexec).keeps
  obtain ⟨h1, h2, h3, h4, h5, h6, h7, h8, h9, h10, h11, h12⟩ := hkeeps
  exact ⟨h1, h2, h3, h4, h5, h6, h7, h8, h9, h10, h11, h12⟩

end Sys2Proof.Claims
end

section
/-! PROOF. Every step keeps every target computed from the inputs as they stand (R55, R69, R72). -/

namespace Sys2Proof.Claims

open Sys2Proof.Machine Sys2Proof.Safety

/-! ### What a set-point computation reads and writes -/

/-- The fields of a record that the chain reads or writes. -/
def chainPart (r : ZoneRec) : (Nat × Nat) × (Option Nat × Option Nat × Option Nat × Option Nat × Bool) × Int × Int :=
  (place r, (r.coverage, r.effective, r.base, r.target, r.limit), r.consoleTrim, r.loopTrim)

theorem chainPart_eq_iff {q r : ZoneRec} :
    chainPart q = chainPart r ↔
      (q.unit = r.unit ∧ q.zone = r.zone) ∧
        (q.coverage = r.coverage ∧ q.effective = r.effective ∧ q.base = r.base ∧ q.target = r.target ∧ q.limit = r.limit) ∧
          q.consoleTrim = r.consoleTrim ∧ q.loopTrim = r.loopTrim := by
  simp only [chainPart, place, Prod.mk.injEq]

theorem chainPart_of_fixedPart {s t : State} (h : t.zones.map fixedPart = s.zones.map fixedPart) :
    t.zones.map chainPart = s.zones.map chainPart := by
  have hpart : chainPart = (fun x => (x.1, x.2.1, x.2.2.1, x.2.2.2.1)) ∘ fixedPart := rfl
  rw [hpart, ← List.map_map, h, List.map_map]

section
variable {s t : State} {j : ActiveJob} {q r : ZoneRec}

/-- Records alike in these fields are computed alike. -/
theorem chainPart_setPoint (h : chainPart q = chainPart r) : chainPart (setPoint s j q) = chainPart (setPoint s j r) := by
  obtain ⟨⟨hunit, hzone⟩, ⟨hcov, -⟩, hconsole, hloop⟩ := chainPart_eq_iff.mp h
  have hopening : ∀ p, openingOf s p q = openingOf s p r := fun p => by
    rw [openingOf, openingOf, hunit, hzone, hcov]
  obtain hn | ⟨p, hp, hclosed | ⟨hfirst, hlast⟩⟩ := width_cases j r
  · rw [setPoint_of_unused hn, setPoint_of_unused (by rw [hunit]; exact hn)]
    exact chainPart_eq_iff.mpr ⟨⟨hunit, hzone⟩, ⟨rfl, rfl, rfl, rfl, rfl⟩, hconsole, hloop⟩
  · rw [setPoint_of_closed hp hclosed, setPoint_of_closed (by rw [hunit]; exact hp) (by rw [hzone]; exact hclosed)]
    exact chainPart_eq_iff.mpr ⟨⟨hunit, hzone⟩, ⟨hcov, hcov, rfl, rfl, rfl⟩, hconsole, hloop⟩
  · rw [setPoint_of_open hp hfirst hlast, setPoint_of_open (by rw [hunit]; exact hp) (by rw [hzone]; exact hfirst)
      (by rw [hzone]; exact hlast), hopening, hconsole, hloop]
    exact chainPart_eq_iff.mpr ⟨⟨hunit, hzone⟩, ⟨hcov, rfl, rfl, rfl, rfl⟩, rfl, rfl⟩

/-- A computation that changes none of these fields changes nothing. -/
theorem setPoint_eq_self_iff : setPoint s j r = r ↔ chainPart (setPoint s j r) = chainPart r := by
  refine ⟨congrArg chainPart, fun h => ?_⟩
  obtain ⟨-, ⟨hcov, heff, hbase, htarget, hlimit⟩, -⟩ := chainPart_eq_iff.mp h
  have hframe := setPoint_frame s j r
  rw [hframe, hcov, heff, hbase, htarget, hlimit]

theorem computed_of_chainPart (h : chainPart q = chainPart r) (hq : setPoint s j q = q) : setPoint s j r = r := by
  rw [setPoint_eq_self_iff, ← chainPart_setPoint h, hq, h]

/-- A zone's computation reads the coverage of its unit and its unit's curve alone (R60, R61). -/
theorem setPoint_congr_of_used (h : ∀ p, j.record? r.unit = some p →
      (∀ z, coverageAt t.zones r.unit z = coverageAt s.zones r.unit z) ∧ t.curve? p.curve = s.curve? p.curve) :
    setPoint t j r = setPoint s j r := by
  obtain hn | ⟨p, hp, hclosed | ⟨hfirst, hlast⟩⟩ := width_cases j r
  · rw [setPoint_of_unused hn, setPoint_of_unused hn]
  · rw [setPoint_of_closed hp hclosed, setPoint_of_closed hp hclosed]
  · obtain ⟨hcov, hcurve⟩ := h p hp
    have hvalue : ∀ z c, neighbourValue t.zones p r.unit z c = neighbourValue s.zones p r.unit z c := fun z c => by
      rw [neighbourValue, neighbourValue, hcov]
    have hspread : ∀ c, spread t.zones p r.unit r.zone c = spread s.zones p r.unit r.zone c := fun c => by
      simp only [spread, hvalue]
    have hopening : openingOf t p r = openingOf s p r := by rw [openingOf, openingOf, hspread, hcurve]
    rw [setPoint_of_open hp hfirst hlast, setPoint_of_open hp hfirst hlast, hopening]

/-- It reads the record of its unit alone in the job (R57). -/
theorem setPoint_job_congr {j' : ActiveJob} (h : j'.record? r.unit = j.record? r.unit) : setPoint s j' r = setPoint s j r := by
  rw [setPoint, setPoint, h]

end

theorem record?_mem {j : ActiveJob} {u : Nat} {p : UnitParams} (h : j.record? u = some p) : p ∈ j.records := by
  unfold ActiveJob.record? at h
  split_ifs at h
  exact List.mem_of_find?_eq_some h

/-- The coverage of a zone, from places and coverages alone. -/
theorem coverageAt_eq (zones : List ZoneRec) (u z : Nat) :
    coverageAt zones u z = ((zones.map chainPart).find? (fun x => x.1 == (u, z))).bind (fun x => x.2.1.1) := by
  rw [coverageAt, List.find?_map]
  have hzone : (fun r : ZoneRec => r.isZone u z) = (fun x => x.1 == (u, z)) ∘ chainPart := by
    funext r
    rw [Bool.eq_iff_iff, isZone_iff_place, Function.comp_apply, beq_iff_eq]
    rfl
  rw [hzone]
  cases zones.find? ((fun x => x.1 == (u, z)) ∘ chainPart) <;> rfl

/-- The coverage of a unit's zones after a change that keeps it there. -/
theorem coverageAt_map_unit {l : List ZoneRec} {g : ZoneRec → ZoneRec} (hplace : ∀ r, place (g r) = place r) {u : Nat}
    (hcov : ∀ r ∈ l, r.unit = u → (g r).coverage = r.coverage) (z : Nat) : coverageAt (l.map g) u z = coverageAt l u z := by
  rw [coverageAt, coverageAt, find?_map_isZone l g u z fun r => place_eq_iff.mp (hplace r)]
  cases hf : l.find? (fun r => r.isZone u z) with
  | none => rfl
  | some r =>
    obtain ⟨hu, -⟩ := place_eq_iff.mp (isZone_iff_place.mp (List.find?_some (p := fun r : ZoneRec => r.isZone u z) hf))
    exact hcov r (List.mem_of_find?_eq_some hf) hu

/-! ### Targets kept computed -/

section
variable {s t : State}

/-- A change of neither job nor chain fields nor curves in use. -/
theorem computedOk_congr (h : ComputedOk s) (hjob : t.job = s.job) (hzones : t.zones.map chainPart = s.zones.map chainPart)
    (hcurves : ∀ j ∈ s.job, ∀ p ∈ j.records, t.curve? p.curve = s.curve? p.curve) : ComputedOk t := by
  intro j hj r hr
  rw [hjob] at hj
  have hmem : chainPart r ∈ t.zones.map chainPart := List.mem_map_of_mem hr
  rw [hzones] at hmem
  obtain ⟨q, hq, hqr⟩ := List.mem_map.mp hmem
  have hset : setPoint t j r = setPoint s j r := setPoint_congr_of_used fun p hp =>
    ⟨fun z => by rw [coverageAt_eq, coverageAt_eq, hzones], hcurves j hj p (record?_mem hp)⟩
  rw [hset]
  exact computed_of_chainPart hqr (h j hj q hq)

theorem computedOk_sched (h : ComputedOk s) (hs : Sched s t) : ComputedOk t := by
  have hrest := hs.turns.rest
  refine computedOk_congr h hs.turns.job (chainPart_of_fixedPart hs.fixed) fun j _ p _ => ?_
  rw [State.curve?, hrest]
  rfl

/-- Zones computed from a table are computed in the table they make, where the others were. -/
theorem computed_map {j : ActiveJob} {p : ZoneRec → Bool}
    (hzones : t.zones = s.zones.map (fun r => if p r then setPoint s j r else r)) (hcurves : t.curves = s.curves)
    (hrest : ∀ r ∈ s.zones, p r = false → setPoint s j r = r) : ∀ r ∈ t.zones, setPoint t j r = r := by
  intro r hr
  have hset : setPoint t j r = setPoint s j r := by
    refine setPoint_congr_of_used fun k hk => ⟨fun z => ?_, by rw [State.curve?, hcurves]; rfl⟩
    rw [hzones]
    refine coverageAt_map_unit (fun q => ?_) (fun q _ hu => ?_) z
    · split_ifs
      exacts [setPoint_place s j q, rfl]
    · split_ifs
      exacts [setPoint_coverage_of_used (hu ▸ hk), rfl]
  rw [hset]
  rw [hzones] at hr
  obtain ⟨q, hq, rfl⟩ := List.mem_map.mp hr
  split_ifs with hp
  · exact setPoint_setPoint s j q
  · exact hrest q hq (Bool.eq_false_iff.mpr hp)

theorem computedOk_recompute (p : ZoneRec → Bool) (hrest : ∀ j ∈ s.job, ∀ r ∈ s.zones, p r = false → setPoint s j r = r) :
    ComputedOk (s.recompute p).1 := by
  intro j hj
  obtain hn | ⟨k, hk⟩ := Option.eq_none_or_eq_some s.job
  · have he : s.recompute p = (s, []) := by rw [State.recompute, hn]
    rw [he, hn] at hj
    cases hj
  · rw [recompute_of_job p hk] at hj ⊢
    obtain rfl : k = j := Option.some.inj (hk.symm.trans hj)
    exact computed_map (s := s) rfl rfl (hrest k hk)

/-- The trims of a request written and the changed zones recomputed (R69). -/
theorem computedOk_trims (h : ComputedOk s) (hrecords : RecordsOk s) {g : ZoneRec → ZoneRec} (hg : TrimsOnly g) :
    ComputedOk (({ s with zones := s.zones.map g } : State).recompute (trimChanged s.zones)).1 := by
  refine computedOk_recompute _ fun j hj r hr hsame => ?_
  obtain ⟨q, hq, rfl⟩ := List.mem_map.mp hr
  have hgq : g q = q := by
    by_contra hne
    rw [(trimChanged_iff (records_nodup hrecords) hg hq).mpr hne] at hsame
    cases hsame
  have hset : setPoint { s with zones := s.zones.map g } j q = setPoint s j q :=
    setPoint_congr (s := s) (t := { s with zones := s.zones.map g }) (coverageAt_map hg.place fun r _ => hg.coverage r) rfl j q
  rw [hgq, hset]
  exact h j hj q hq

/-- A new sweep and its unit recomputed (R49). -/
theorem computedOk_sweep (h : ComputedOk s) {j : ActiveJob} (hj : s.job = some j) (u sweep : Nat) :
    ComputedOk ((sweptJob s j u sweep).recompute (fun r => r.unit == u)).1 := by
  refine computedOk_recompute _ fun k hk r hr hother => ?_
  obtain rfl := Option.some.inj hk
  have hne : r.unit ≠ u := beq_eq_false_iff_ne.mp hother
  have hrecord : (j.setSweep u sweep).record? r.unit = j.record? r.unit := by
    rw [record?_setSweep]
    cases hp : j.record? r.unit with
    | none => rfl
    | some p =>
      have hpu : p.unit = r.unit := by
        unfold ActiveJob.record? at hp
        split_ifs at hp
        exact beq_iff_eq.mp (List.find?_some (p := fun p : UnitParams => p.unit == r.unit) hp)
      rw [Option.map_some, if_neg (by rw [hpu, beq_iff_eq]; exact hne)]
  have hset : setPoint (sweptJob s j u sweep) (j.setSweep u sweep) r = setPoint s j r :=
    (setPoint_job_congr hrecord).trans (setPoint_congr (s := s) (fun _ _ => rfl) rfl j r)
  rw [hset]
  exact h j hj r hr

/-- A staged job taken: every zone is computed (R46). -/
theorem computedOk_take (s : State) (c : Stage) : ComputedOk (s.take c).1 := by
  intro j hj
  obtain rfl := Option.some.inj hj
  refine computed_map (s := { s with zones := takenZones s c }) (p := fun _ => true) ?_ rfl fun _ _ => nofun
  rw [take_zones]
  rfl

/-- Loop hold flags have no part in the chain (R80). -/
theorem computedOk_loopHold (h : ComputedOk s) {g : ZoneRec → ZoneRec} (hg : LoopHoldOnly g) :
    ComputedOk { s with zones := s.zones.map g } := by
  refine computedOk_congr h rfl ?_ fun _ _ _ _ => rfl
  change (s.zones.map g).map chainPart = s.zones.map chainPart
  rw [List.map_map]
  refine List.map_congr_left fun r _ => ?_
  rw [Function.comp_apply, hg r]
  rfl

/-- A curve slot written that no used unit names (R24, R25). -/
theorem computedOk_setCurve (h : ComputedOk s) {k : Nat} (c : Option Curve) (hfree : s.activeUses k = 0) :
    ComputedOk (s.setCurve k c) := by
  refine computedOk_congr h rfl rfl fun j hj p hp => curve?_setCurve_other c ?_
  intro e
  have hcount : j.records.countP (fun p => p.curve == k) = 0 := by
    rw [State.activeUses, show s.job = some j from hj] at hfree
    exact hfree
  exact List.countP_eq_zero.mp hcount p hp (beq_iff_eq.mpr e)

theorem computedOk_of_no_job (hj : t.job = none) : ComputedOk t := by
  intro j h
  rw [hj] at h
  cases h

/-- What an executed request leaves keeps every target computed. -/
theorem computedOk_body {q : Req} {x : State} (h : ComputedOk s) (hrecords : RecordsOk s) (hdevice : DeviceOk s) (hx :
    BodyEffect q s x) :
    ComputedOk x := by
  cases hx with
  | curve k c hok hfree => exact computedOk_setCurve h c hfree
  | retry hfailed =>
    rw [retrySupply_frame]
    exact computedOk_congr h rfl rfl fun _ _ _ _ => rfl
  | configure nz hd hlen hnz =>
    refine computedOk_of_no_job (t := s.configured nz) ?_
    by_contra hsome
    have hactive := hdevice.2.2.mpr (Option.ne_none_iff_isSome.mp hsome)
    rw [hd] at hactive
    cases hactive
  | loopHold g hg => exact computedOk_loopHold h hg
  | addDisable hr hs => exact computedOk_sched h (sched_addDisable hr hs)
  | service x hsched hmoves => exact computedOk_sched h (hsched.trans (.settle x))
  | calService u z e he x hsched hmoves => exact computedOk_sched (s := s.setCalEntry u z e) h (hsched.trans (.settle x))
  | trims g hg hrange => exact computedOk_sched (computedOk_trims h hrecords hg) (sched_handBatch _ _)
  | endJob j hj => exact computedOk_sched (computedOk_of_no_job (t := endedJob s) rfl) (sched_handBatch _ _)
  | sweep u sweep j p hj hp hsweep => exact computedOk_sched (computedOk_sweep h hj u sweep) (sched_handBatch _ _)
  | take c hslot hdefined hd =>
    exact computedOk_sched (computedOk_take s c) ((Sched.post _ .jobTaken).trans (sched_handBatch _ _))
  | _ => exact computedOk_congr h rfl rfl fun _ _ _ _ => rfl

/-- Every command keeps every target computed. -/
theorem computedOk_effect (h : ComputedOk s) (hrecords : RecordsOk s) (hdevice : DeviceOk s) (ht : Effect s t) :
    ComputedOk t := by
  cases ht with
  | quiet hframe hfreeze hphase hbusy =>
    rw [hframe]
    exact computedOk_congr h rfl rfl fun _ _ _ _ => rfl
  | ended p =>
    refine computedOk_congr h (s.commit_job p) (congrArg (List.map chainPart) (s.commit_zones p)) fun _ _ _ _ => ?_
    exact congrArg (fun v => Vector.getD v _ none) (s.commit_curves p)
  | reset hframe htables =>
    rw [hframe]
    exact computedOk_of_no_job rfl
  | sched x hsched hlines => exact computedOk_sched h (hsched.trans (.settle x))
  | line u l hlines => exact computedOk_sched h (.setLine s u l)
  | grant u hpick hlines => exact computedOk_sched h (.grant hpick)
  | freezeOn l hl =>
    exact computedOk_sched (s := { s with press := { s.press with freeze := l } }) h ((sched_freezeAsserted _).trans (.post _ _))
  | freezeOff l hl => exact computedOk_sched (s := { s with press := { s.press with freeze := l } }) h (.post _ _)
  | supplyOn l hw =>
    exact computedOk_sched (s := { s with supply := { s.supply with ok := l, state := .on, warmUp := none } }) h (.settle _)
  | supplyLost l hon =>
    let failed : State := { s with supply := { s.supply with ok := l, state := .failed, warmUp := none, standby := none } }
    have hfold : Sched failed (failed.zoneIds.foldl (fun t q => t.loseZone q.1 q.2) failed) :=
      sched_foldl (f := fun (t : State) (q : Nat × Nat) => t.loseZone q.1 q.2) (fun t q => sched_loseZone t q.1 q.2) _ _
    exact computedOk_sched (s := failed) h ((hfold.trans (.post _ .supplyAlert)).trans (.settle _))
  | warmUpOver hw =>
    exact computedOk_sched (s := { s with supply := { s.supply with state := .failed, warmUp := none } }) h (.post _ _)
  | standbyOver hs => exact computedOk_congr h rfl rfl fun _ _ _ _ => rfl
  | request p code tag a x w hbody hrun hw hfree =>
    have hx : ComputedOk x := computedOk_body (s := s.shiftZero p) h hrecords hdevice hbody
    exact computedOk_congr hx rfl rfl fun _ _ _ _ => rfl

end

/-- Settles O57: by the form of each command's effect. -/
theorem everyStepKeepsTargetsComputed : Obligations.EveryStepKeepsTargetsComputed := by
  intro s t hrecords hdevice hs h
  obtain ⟨-, rfl⟩ | ⟨c, rest, -, hexec⟩ := step_cases h
  · exact computedOk_effect hs hrecords hdevice (effect_tick s)
  · exact computedOk_effect (s := { s with pending := rest }) hs hrecords hdevice (exec_effect hexec)

end Sys2Proof.Claims
end

section
/-! PROOF. The division of work between the masters: what the requests of each port leave as they are. -/

namespace Sys2Proof.Claims

open Sys2Proof.Machine Sys2Proof.Safety

/-! ### What a request command can do -/

/-- A request changes ports alone, or has the effect of its meaning on a port that allows it, or resets the part. -/
theorem command_cases {q : Req} {f : Frame} {s t : State} (h : exec (command q f) s = .next t) :
    (∃ ps, t = { s with ports := ps }) ∨
      (∃ (x : State) (a : Answer) (w : Option TableWrite), BodyEffect q (s.shiftZero f.port) x ∧ reqAllowed q f.port = true ∧
        (¬ WritesTable q → w = none) ∧ t = x.beginExecution f.port (reqCode q) f.tag a w) ∨
      q = .deviceReset ∧ f.port = .console ∧ t = (s.shiftZero f.port).toHeld.endReset := by
  by_cases hq : q = .portReset
  · subst hq
    change exec (.portReset f) s = .next t at h
    rw [exec_portReset, execPortReset] at h
    split_ifs at h <;> cases h
    exacts [.inl ⟨_, rfl⟩, .inl ⟨_, rfl⟩]
  · rw [exec_command hq] at h
    obtain rfl | rfl | ⟨-, -, rfl⟩ := takeRequest_next h
    · exact .inl ⟨_, rfl⟩
    · exact .inl ⟨_, rfl⟩
    · unfold requestTaken
      split_ifs with hreset
      · subst hreset
        cases hrefusal : frameRefusal .deviceReset f (s.shiftZero f.port).device with
        | some a => exact .inl ⟨_, rfl⟩
        | none =>
          obtain ⟨-, hallowed, -⟩ := frameRefusal_eq_none.mp hrefusal
          exact .inr (.inr ⟨rfl, beq_iff_eq.mp hallowed, rfl⟩)
      · unfold judged
        cases hrefusal : frameRefusal q f (s.shiftZero f.port).device with
        | some a => exact .inl ⟨_, rfl⟩
        | none =>
          obtain ⟨hlen, hdevice⟩ := operands_of_refusal_none hrefusal
          exact .inr (.inl ⟨_, _, _, requestBody_effect q f hlen hdevice, (frameRefusal_eq_none.mp hrefusal).2.1,
            tableWrite_of_not_writesTable, rfl⟩)

/-- A request of the Console Port alone is made on no other. -/
theorem OfConsole.not_allowed {q : Req} (h : OfConsole q) {p : Port} (hp : p ≠ .console) : reqAllowed q p ≠ true := by
  cases p with
  | console => exact absurd rfl hp
  | job => exact Bool.eq_false_iff.mp h.1
  | loop => exact Bool.eq_false_iff.mp h.2

theorem ofConsole_setKeyCal : OfConsole .setKeyCal := ⟨rfl, rfl⟩

theorem ofConsole_takeJob : OfConsole .takeJob := ⟨rfl, rfl⟩

/-! ### The Job Port -/

/-- What no request on the Job Port changes. -/
def JobPortKeeps (s t : State) : Prop :=
  t.zones = s.zones ∧ t.queues = s.queues ∧ t.lines = s.lines ∧ t.supply = s.supply ∧ t.job = s.job ∧ t.device = s.device ∧
    t.nz = s.nz ∧ t.limits = s.limits ∧ t.loop = s.loop ∧ t.hold = s.hold ∧ t.cal = s.cal

theorem jobPortKeeps_refl (s : State) : JobPortKeeps s s := ⟨rfl, rfl, rfl, rfl, rfl, rfl, rfl, rfl, rfl, rfl, rfl⟩

theorem jobPort_body {q : Req} {s x : State} (hx : BodyEffect q s x) (hallowed : reqAllowed q .job = true) :
    JobPortKeeps s x := by
  have hno : ∀ {P : Prop}, OfConsole q → P := fun h => (h.not_allowed (by decide) hallowed).elim
  cases hx with
  | same => exact jobPortKeeps_refl s
  | ports ps hcmd => exact jobPortKeeps_refl s
  | slot sl ps hslot hfits hq hcmd => exact jobPortKeeps_refl s
  | discard hq => exact jobPortKeeps_refl s
  | curve k c hok hfree hq => exact jobPortKeeps_refl s
  | cal u z e he hq => exact hno (hq ▸ ofConsole_setKeyCal)
  | calService u z e he x hsched hmoves hq => exact hno (hq ▸ ofConsole_setKeyCal)
  | take c hslot hdefined hdevice hq => exact hno (hq ▸ ofConsole_takeJob)
  | trims g hg hrange hq =>
    obtain hq | ⟨rfl, -⟩ := hq
    · exact hno hq
    · cases hallowed
  | hold b hq => exact hno hq
  | limits l hok hq => exact hno hq
  | loop l hok hq => exact hno hq
  | retry hfailed hq => exact hno hq
  | configure nz hdevice hlen hnz hq => exact hno hq
  | loopHold g hg hq => exact hno hq
  | addDisable hr hs hq => exact hno hq
  | service x hsched hmoves hq => exact hno hq
  | endJob j hj hq => exact hno hq
  | sweep u sweep j p hj hp hsweep hq => exact hno hq

/-! ### The Loop Port -/

/-- What no request on the Loop Port changes. -/
def LoopPortKeeps (s t : State) : Prop :=
  t.zones.map ZoneRec.coverage = s.zones.map ZoneRec.coverage ∧ t.zones.map ZoneRec.consoleTrim = s.zones.map ZoneRec.consoleTrim ∧
    t.slot = s.slot ∧ t.job = s.job ∧ t.device = s.device ∧ t.nz = s.nz ∧ t.curves = s.curves ∧ t.cal = s.cal ∧
    t.limits = s.limits ∧ t.loop = s.loop ∧ t.hold = s.hold

theorem loopPortKeeps_refl (s : State) : LoopPortKeeps s s := ⟨rfl, rfl, rfl, rfl, rfl, rfl, rfl, rfl, rfl, rfl, rfl⟩

/-- The Move Scheduler writes none of it. -/
theorem LoopPortKeeps.sched {s x t : State} (h : LoopPortKeeps s x) (hs : Sched x t) : LoopPortKeeps s t := by
  have hfield : ∀ {α : Type} (p : (Nat × Nat) × (Option Nat × Option Nat × Option Nat × Option Nat × Bool) × Int × Int × Bool → α),
      t.zones.map (p ∘ fixedPart) = x.zones.map (p ∘ fixedPart) := fun p => by
    rw [← List.map_map, hs.fixed, List.map_map]
  obtain ⟨hcoverage, hconsole, hrest⟩ := h
  have hturns := hs.turns.rest
  rw [hturns]
  exact ⟨(hfield fun y => y.2.1.1).trans hcoverage, (hfield fun y => y.2.2.1).trans hconsole, hrest⟩

/-- A zone whose loop trim is written keeps coverage and console trim: its unit is used (R57). -/
theorem setPoint_loopTrimmed {s : State} {g : ZoneRec → ZoneRec} (hg : TrimsOnly g) (hloop : LoopTrims s g) {j : ActiveJob}
    (hj : s.job = some j) {r : ZoneRec} (hne : g r ≠ r) :
    (setPoint s j (g r)).coverage = r.coverage ∧ (setPoint s j (g r)).consoleTrim = r.consoleTrim := by
  obtain ⟨hconsole, hused⟩ := hloop r
  obtain ⟨p, hp⟩ := Option.isSome_iff_exists.mp (hused hne)
  have hrecord : j.record? (g r).unit = some p := by
    rw [(place_eq_iff.mp (hg.place r)).1, ← hp, State.usedUnit, hj]
    rfl
  have hframe := congrArg ZoneRec.consoleTrim (setPoint_frame s j (g r))
  exact ⟨(setPoint_coverage_of_used hrecord).trans (hg.coverage r), hframe.trans hconsole⟩

/-- Loop trims written and their zones recomputed (R101). -/
theorem loopPortKeeps_retrimmed {s : State} {g : ZoneRec → ZoneRec} (hg : TrimsOnly g) (hloop : LoopTrims s g) :
    LoopPortKeeps s (retrimmed s g) := by
  obtain ⟨h, hzones, hkeeps⟩ : ∃ h : ZoneRec → ZoneRec, (retrimmed s g).zones = s.zones.map h ∧
      ∀ r, (h r).coverage = r.coverage ∧ (h r).consoleTrim = r.consoleTrim := by
    obtain hj | ⟨j, hj⟩ := Option.eq_none_or_eq_some s.job
    · exact ⟨g, by rw [retrimmed_of_no_job hj], fun r => ⟨hg.coverage r, (hloop r).1⟩⟩
    · refine ⟨fun r => if g r = r then r else setPoint s j (g r), by rw [retrimmed_of_job hj], fun r => ?_⟩
      dsimp only
      split_ifs with hsame
      · exact ⟨rfl, rfl⟩
      · exact setPoint_loopTrimmed hg hloop hj hsame
  refine ⟨?_, ?_, rfl, rfl, rfl, rfl, rfl, rfl, rfl, rfl, rfl⟩
  · rw [hzones, List.map_map]
    exact List.map_congr_left fun r _ => (hkeeps r).1
  · rw [hzones, List.map_map]
    exact List.map_congr_left fun r _ => (hkeeps r).2

theorem loopPort_body {q : Req} {s x : State} (hrecords : RecordsOk s) (hx : BodyEffect q s x)
    (hallowed : reqAllowed q .loop = true) : LoopPortKeeps s x := by
  have hno : ∀ {P : Prop}, OfConsole q → P := fun h => (h.not_allowed (by decide) hallowed).elim
  cases hx with
  | same => exact loopPortKeeps_refl s
  | ports ps hcmd => exact loopPortKeeps_refl s
  | slot sl ps hslot hfits hq hcmd => exact absurd hallowed (Bool.eq_false_iff.mp hq.2)
  | discard hq =>
    subst hq
    cases hallowed
  | curve k c hok hfree hq => rcases hq with rfl | rfl <;> cases hallowed
  | cal u z e he hq => exact hno (hq ▸ ofConsole_setKeyCal)
  | calService u z e he x hsched hmoves hq => exact hno (hq ▸ ofConsole_setKeyCal)
  | take c hslot hdefined hdevice hq => exact hno (hq ▸ ofConsole_takeJob)
  | trims g hg hrange hq =>
    obtain hq | ⟨-, hloop⟩ := hq
    · exact hno hq
    · rw [State.writeZoneTrims, recompute_written (records_nodup hrecords) hg]
      exact (loopPortKeeps_retrimmed hg hloop).sched (sched_handBatch _ _)
  | hold b hq => exact hno hq
  | limits l hok hq => exact hno hq
  | loop l hok hq => exact hno hq
  | retry hfailed hq => exact hno hq
  | configure nz hdevice hlen hnz hq => exact hno hq
  | loopHold g hg hq => exact hno hq
  | addDisable hr hs hq => exact hno hq
  | service x hsched hmoves hq => exact hno hq
  | endJob j hj hq => exact hno hq
  | sweep u sweep j p hj hp hsweep hq => exact hno hq

/-! ### The Console Port -/

/-- Where a zone's coverage after a request on the Console Port comes from. -/
def CoverageFrom (q : Req) (s : State) (r : ZoneRec) : Prop :=
  r.coverage = none ∨ (∃ o ∈ s.zones, o.unit = r.unit ∧ o.zone = r.zone ∧ o.coverage = r.coverage) ∨
    q = .takeJob ∧ ∃ c v, s.slot = .complete c ∧ v ∈ c.stream ∧ r.coverage = some v

section
variable {q : Req} {s x t : State}

theorem coverageFrom_self {r : ZoneRec} (hr : r ∈ s.zones) : CoverageFrom q s r := .inr (.inl ⟨r, hr, rfl, rfl, rfl⟩)

/-- A record of the same place and coverage, or without coverage. -/
theorem CoverageFrom.congr {r r' : ZoneRec} (h : CoverageFrom q s r) (hplace : place r' = place r)
    (hcoverage : r'.coverage = r.coverage ∨ r'.coverage = none) : CoverageFrom q s r' := by
  obtain hcoverage | hnone := hcoverage
  · obtain ⟨hunit, hzone⟩ := place_eq_iff.mp hplace
    rw [CoverageFrom, hcoverage, hunit, hzone]
    exact h
  · exact .inl hnone

/-- The Move Scheduler writes no coverage. -/
theorem coverageFrom_sched (h : ∀ r ∈ x.zones, CoverageFrom q s r) (hs : Sched x t) : ∀ r ∈ t.zones, CoverageFrom q s r := by
  intro r hr
  obtain ⟨o, ho, hor⟩ := exists_fixed hs.fixed hr
  obtain ⟨⟨hunit, hzone⟩, ⟨hcoverage, -⟩, -⟩ := fixedPart_eq_iff.mp hor
  exact (h o ho).congr (place_eq_iff.mpr ⟨hunit.symm, hzone.symm⟩) (.inl hcoverage.symm)

/-- A change of records that writes no coverage but the absence of it. -/
theorem coverageFrom_map {l : List ZoneRec} {g : ZoneRec → ZoneRec} (h : ∀ r ∈ l, CoverageFrom q s r)
    (hplace : ∀ r, place (g r) = place r) (hcoverage : ∀ r, (g r).coverage = r.coverage ∨ (g r).coverage = none) :
    ∀ r ∈ l.map g, CoverageFrom q s r := by
  intro r hr
  obtain ⟨o, ho, rfl⟩ := List.mem_map.mp hr
  exact (h o ho).congr (hplace o) (hcoverage o)

theorem setPoint_coverage_cases (s : State) (j : ActiveJob) (r : ZoneRec) :
    (setPoint s j r).coverage = r.coverage ∨ (setPoint s j r).coverage = none := by
  obtain hn | ⟨p, hp⟩ := Option.eq_none_or_eq_some (j.record? r.unit)
  exacts [.inr (setPoint_coverage_of_unused hn), .inl (setPoint_coverage_of_used hp)]

theorem coverageFrom_setPoint {l : List ZoneRec} (h : ∀ r ∈ l, CoverageFrom q s r) (x : State) (j : ActiveJob) :
    ∀ r ∈ l.map (setPoint x j), CoverageFrom q s r :=
  coverageFrom_map h (setPoint_place x j) (setPoint_coverage_cases x j)

theorem coverageFrom_recompute (h : ∀ r ∈ x.zones, CoverageFrom q s r) (p : ZoneRec → Bool) :
    ∀ r ∈ (x.recompute p).1.zones, CoverageFrom q s r := by
  obtain hj | ⟨j, hj⟩ := Option.eq_none_or_eq_some x.job
  · rw [recompute_of_no_job p hj]
    exact h
  · rw [recompute_of_job p hj]
    refine coverageFrom_map h (fun r => ?_) fun r => ?_
    · split_ifs
      exacts [setPoint_place x j r, rfl]
    · split_ifs
      exacts [setPoint_coverage_cases x j r, .inl rfl]

/-- A staged job taken: every coverage is a value of its stream (R46). -/
theorem coverageFrom_taken {c : Stage} (hslot : s.slot = .complete c) : ∀ r ∈ takenZones s c, CoverageFrom .takeJob s r := by
  intro r hr
  obtain ⟨o, -, rfl⟩ := List.mem_map.mp hr
  obtain hn | ⟨v, hv⟩ := Option.eq_none_or_eq_some (takenRecord s.zonesOf c o).coverage
  · exact .inl hn
  · exact .inr (.inr ⟨rfl, c, v, hslot, streamAt_mem hv, hv⟩)

/-- What a request on the Console Port leaves of slot and coverage. -/
def ConsolePortKeeps (q : Req) (s t : State) : Prop :=
  (t.slot = s.slot ∨ t.slot = .empty) ∧ ∀ r ∈ t.zones, CoverageFrom q s r

theorem consolePortKeeps_refl (q : Req) (s : State) : ConsolePortKeeps q s s := ⟨.inl rfl, fun _ => coverageFrom_self⟩

theorem ConsolePortKeeps.sched (h : ConsolePortKeeps q s x) (hs : Sched x t) : ConsolePortKeeps q s t := by
  have hslot : t.slot = x.slot := by rw [hs.turns.rest]
  exact ⟨hslot ▸ h.1, coverageFrom_sched h.2 hs⟩

theorem recompute_slot (x : State) (p : ZoneRec → Bool) : (x.recompute p).1.slot = x.slot := by
  unfold State.recompute
  cases x.job <;> rfl

theorem ConsolePortKeeps.recompute (h : ConsolePortKeeps q s x) (p : ZoneRec → Bool) : ConsolePortKeeps q s (x.recompute p).1 :=
  ⟨(recompute_slot x p).symm ▸ h.1, coverageFrom_recompute h.2 p⟩

theorem consolePort_body (hx : BodyEffect q s x) (hallowed : reqAllowed q .console = true) : ConsolePortKeeps q s x := by
  have hself : ∀ r ∈ s.zones, CoverageFrom q s r := fun _ => coverageFrom_self
  cases hx with
  | same => exact consolePortKeeps_refl q s
  | ports ps hcmd => exact consolePortKeeps_refl q s
  | slot sl ps hslot hfits hq hcmd => exact absurd hallowed (Bool.eq_false_iff.mp hq.1)
  | discard hq => exact ⟨.inr rfl, hself⟩
  | curve k c hok hfree hq => exact consolePortKeeps_refl q s
  | cal u z e he hq => exact consolePortKeeps_refl q s
  | hold b hq => exact consolePortKeeps_refl q s
  | limits l hok hq => exact consolePortKeeps_refl q s
  | loop l hok hq => exact consolePortKeeps_refl q s
  | retry hfailed hq =>
    rw [retrySupply_frame]
    exact consolePortKeeps_refl q s
  | configure nz hdevice hlen hnz hq =>
    refine ⟨.inl rfl, fun r hr => .inl ?_⟩
    obtain ⟨he, -⟩ := mem_createdZones.mp hr
    rw [he]
    rfl
  | loopHold g hg hq =>
    exact ⟨.inl rfl, coverageFrom_map hself (fun r => by rw [hg r]; rfl) fun r => by rw [hg r]; exact .inl rfl⟩
  | addDisable hr hs hq => exact (consolePortKeeps_refl q s).sched (sched_addDisable hr hs)
  | service x hsched hmoves hq => exact (consolePortKeeps_refl q s).sched (hsched.trans (.settle x))
  | calService u z e he x hsched hmoves hq =>
    have hcal : ConsolePortKeeps q s (s.setCalEntry u z e) := consolePortKeeps_refl q s
    exact hcal.sched (hsched.trans (.settle x))
  | trims g hg hrange hq =>
    have hwritten : ConsolePortKeeps q s { s with zones := s.zones.map g } :=
      ⟨.inl rfl, coverageFrom_map hself hg.place fun r => .inl (hg.coverage r)⟩
    exact (hwritten.recompute (trimChanged s.zones)).sched (sched_handBatch _ _)
  | endJob j hj hq =>
    have hended : ConsolePortKeeps q s (endedJob s) := ⟨.inl rfl, coverageFrom_map hself (fun _ => rfl) fun _ => .inr rfl⟩
    exact hended.sched (sched_handBatch _ _)
  | sweep u sweep j p hj hp hsweep hq =>
    have hswept : ConsolePortKeeps q s (sweptJob s j u sweep) := consolePortKeeps_refl q s
    exact (hswept.recompute fun r => r.unit == u).sched (sched_handBatch _ _)
  | take c hslot hdefined hdevice hq =>
    subst hq
    have htaken : ConsolePortKeeps .takeJob s (s.take c).1 := ⟨.inr rfl, coverageFrom_setPoint (coverageFrom_taken hslot) _ _⟩
    exact htaken.sched ((Sched.post _ .jobTaken).trans (sched_handBatch _ _))

end

/-- Settles O60: by the effect of each request its port may make. -/
theorem mastersKeepTheirDivisionOfWork : Obligations.MastersKeepTheirDivisionOfWork := by
  intro q f s t hrecords h
  obtain ⟨ps, rfl⟩ | ⟨x, a, w, hbody, hallowed, -, rfl⟩ | ⟨rfl, hport, rfl⟩ := command_cases h
  · exact ⟨fun _ => jobPortKeeps_refl s, fun _ => loopPortKeeps_refl s, fun _ => consolePortKeeps_refl q s⟩
  · refine ⟨fun hp => ?_, fun hp => ?_, fun hp => ?_⟩
    · exact jobPort_body (s := s.shiftZero f.port) (x := x) hbody (hp ▸ hallowed)
    · exact loopPort_body (s := s.shiftZero f.port) (x := x) hrecords hbody (hp ▸ hallowed)
    · exact consolePort_body (s := s.shiftZero f.port) (x := x) hbody (hp ▸ hallowed)
  · rw [hport]
    exact ⟨nofun, nofun, fun _ => ⟨.inr rfl, fun r hr => absurd hr List.not_mem_nil⟩⟩

end Sys2Proof.Claims
end

section
/-! PROOF. What the resets keep of the two tables, and the account of it that every step keeps (R15, R31, R172, R174; log 7). -/

namespace Sys2Proof.Claims

open Sys2Proof.Machine Sys2Proof.Safety

/-! ### What operations keep of press, account and ports -/

theorem moves_cmd {s t : State} (h : Moves s t) (p : Port) : (t.port p).cmd = (s.port p).cmd := by
  rw [h.ports p]

/-- The Move Scheduler changes no port's command state. -/
theorem Sched.cmd {s t : State} (h : Sched s t) (p : Port) : (t.port p).cmd = (s.port p).cmd := by
  induction h with
  | refl s => rfl
  | trans _ _ h1 h2 => exact h2.trans h1
  | enter k cause g hr hk hstate hg hlaw =>
    exact moves_cmd (moves_enter _ _ _ k cause g fun q => place_eq_iff.mp (hg.place q)) p
  | change f hr hstate hf hlaw hretry => rfl
  | grant h =>
    unfold State.grantTo
    split <;> rfl
  | setLine s u l => rfl
  | post s n => exact post_cmd s n p
  | settle s => exact moves_cmd (moves_settle s) p

/-- The state with press signals, account of the kept tables and the ports' command states as they were; the tables too,
but for the requests that write them. -/
structure PressAndAccount (q : Req) (s x : State) : Prop where
  press : x.press = s.press
  kept : x.kept = s.kept
  cmd : ∀ p, (x.port p).cmd = (s.port p).cmd
  tables : ¬ WritesTable q → x.cal = s.cal ∧ x.curves = s.curves

section
variable {q : Req} {s x t : State}

theorem pressAndAccount_refl (q : Req) (s : State) : PressAndAccount q s s := ⟨rfl, rfl, fun _ => rfl, fun _ => ⟨rfl, rfl⟩⟩

theorem PressAndAccount.sched (h : PressAndAccount q s x) (hs : Sched x t) : PressAndAccount q s t := by
  have hrest := hs.turns.rest
  refine ⟨hs.turns.press.trans h.press, ?_, fun p => (hs.cmd p).trans (h.cmd p), fun hq => ?_⟩
  · rw [hrest]
    exact h.kept
  · rw [hrest]
    exact h.tables hq

theorem PressAndAccount.recompute (h : PressAndAccount q s x) (p : ZoneRec → Bool) : PressAndAccount q s (x.recompute p).1 := by
  unfold State.recompute
  cases x.job <;> exact ⟨h.press, h.kept, h.cmd, h.tables⟩

theorem pressAndAccount_body (hx : BodyEffect q s x) : PressAndAccount q s x := by
  have hrefl := pressAndAccount_refl q s
  cases hx with
  | ports ps hcmd => exact ⟨rfl, rfl, hcmd, hrefl.tables⟩
  | slot sl ps hslot hfits hq hcmd => exact ⟨rfl, rfl, hcmd, hrefl.tables⟩
  | curve k c hok hfree hq =>
    exact ⟨rfl, rfl, fun _ => rfl, fun hno => absurd (hq.elim .inl fun e => .inr (.inl e)) hno⟩
  | cal u z e he hq => exact ⟨rfl, rfl, fun _ => rfl, fun hno => absurd (.inr (.inr hq)) hno⟩
  | calService u z e he x hsched hmoves hq =>
    have hcal : PressAndAccount q s (s.setCalEntry u z e) :=
      ⟨rfl, rfl, fun _ => rfl, fun hno => absurd (.inr (.inr hq)) hno⟩
    exact hcal.sched (hsched.trans (.settle x))
  | retry hfailed hq =>
    rw [retrySupply_frame]
    exact ⟨rfl, rfl, fun _ => rfl, fun _ => ⟨rfl, rfl⟩⟩
  | addDisable hr hs hq => exact hrefl.sched (sched_addDisable hr hs)
  | service x hsched hmoves hq => exact hrefl.sched (hsched.trans (.settle x))
  | trims g hg hrange hq =>
    have hwritten : PressAndAccount q s { s with zones := s.zones.map g } := ⟨rfl, rfl, fun _ => rfl, fun _ => ⟨rfl, rfl⟩⟩
    exact (hwritten.recompute _).sched (sched_handBatch _ _)
  | endJob j hj hq =>
    have hended : PressAndAccount q s (endedJob s) := ⟨rfl, rfl, fun _ => rfl, fun _ => ⟨rfl, rfl⟩⟩
    exact hended.sched (sched_handBatch _ _)
  | sweep u sweep j p hj hp hsweep hq =>
    have hswept : PressAndAccount q s (sweptJob s j u sweep) := ⟨rfl, rfl, fun _ => rfl, fun _ => ⟨rfl, rfl⟩⟩
    exact (hswept.recompute _).sched (sched_handBatch _ _)
  | take c hslot hdefined hdevice hq =>
    have htaken : PressAndAccount q s (s.take c).1 := ⟨rfl, rfl, fun _ => rfl, fun _ => ⟨rfl, rfl⟩⟩
    exact htaken.sched ((Sched.post _ .jobTaken).trans (sched_handBatch _ _))
  | _ => exact ⟨rfl, rfl, fun _ => rfl, fun _ => ⟨rfl, rfl⟩⟩

/-- A request other than DEVICE RESET keeps the press signals and what a reset keeps of the tables. -/
theorem press_and_kept_of_command {f : Frame} (hq : q ≠ .deviceReset) (h : exec (command q f) s = .next t) :
    t.press = s.press ∧ t.kept.cal = s.kept.cal ∧ t.kept.curves = s.kept.curves ∧ (¬ WritesTable q → t.kept = s.kept) := by
  obtain ⟨ps, rfl⟩ | ⟨x, a, w, hbody, -, hnone, rfl⟩ | ⟨e, -⟩ := command_cases h
  · exact ⟨rfl, rfl, rfl, fun _ => rfl⟩
  · have hx := pressAndAccount_body hbody
    have hkept : (x.beginExecution f.port (reqCode q) f.tag a w).kept = s.kept.note f.port w :=
      congrArg (fun k => Kept.note k f.port w) hx.kept
    rw [hkept]
    exact ⟨hx.press, Kept.note_cal .., Kept.note_curves .., fun hno => by rw [hnone hno, Kept.note_none]⟩
  · exact absurd e hq

/-! ### The account -/

theorem isBusy_congr {c d : PortCtl} (h : c.cmd = d.cmd) : c.isBusy = d.isBusy := by
  unfold PortCtl.isBusy
  rw [h]

theorem keptOk_congr (h : KeptOk s) (hkept : t.kept = s.kept) (hcal : t.cal = s.cal) (hcurves : t.curves = s.curves)
    (hbusy : ∀ p, (t.port p).isBusy = (s.port p).isBusy) : KeptOk t := by
  obtain ⟨h1, h2, h3, h4⟩ := h
  rw [KeptOk, hkept, hcal, hcurves]
  exact ⟨h1, h2, h3, fun e he => (hbusy e.1).trans (h4 e he)⟩

theorem keptOk_sched (h : KeptOk s) (hs : Sched s t) : KeptOk t := by
  have hrest := hs.turns.rest
  refine keptOk_congr h ?_ ?_ ?_ fun p => isBusy_congr (hs.cmd p)
  all_goals rw [hrest]

/-- The account with nothing under way is the tables themselves. -/
theorem keptOk_of_no_writes (hcal : t.kept.cal = t.cal) (hcurves : t.kept.curves = t.curves) (hnone : t.kept.underWay = []) :
    KeptOk t := by
  have hreplayed : replayed t.kept = t.kept := by rw [replayed, hnone]; rfl
  rw [KeptOk, hreplayed, hnone]
  exact ⟨hcal, hcurves, List.nodup_nil, fun _ he => absurd he List.not_mem_nil⟩

theorem tables_of_no_writes (h : KeptOk s) (hopen : openWrites s = []) : s.kept.cal = s.cal ∧ s.kept.curves = s.curves := by
  have hnone : s.kept.underWay = [] := List.map_eq_nil_iff.mp hopen
  have hreplayed : replayed s.kept = s.kept := by rw [replayed, hnone]; rfl
  obtain ⟨hcal, hcurves, -⟩ := h
  rw [hreplayed] at hcal hcurves
  exact ⟨hcal, hcurves⟩

theorem cmd_shiftZero (s : State) (p r : Port) : ((s.shiftZero p).port r).cmd = (s.port r).cmd := by
  rw [State.shiftZero, State.port_modPort]
  split_ifs with h
  · rw [h]
  · rfl

/-- The end of an execution takes its port's write out of the account and leaves the writes of others (log 7). -/
theorem finish_underWay (k : Kept) (p : Port) (hnodup : (k.underWay.map Prod.fst).Nodup) :
    ((k.finish p).underWay.map Prod.fst).Nodup ∧ ∀ e ∈ (k.finish p).underWay, e ∈ k.underWay ∧ e.1 ≠ p := by
  by_cases hnone : ∀ e ∈ k.underWay, e.1 ≠ p
  · rw [Kept.finish_of_none hnone]
    exact ⟨hnodup, fun e he => ⟨he, hnone e he⟩⟩
  · obtain ⟨e, he, hp⟩ : ∃ e, k.underWay.find? (fun e => e.1 == p) = some e ∧ e.1 = p := by
      push Not at hnone
      obtain ⟨e, he, hp⟩ := hnone
      have hsome : (k.underWay.find? fun e => e.1 == p).isSome := List.find?_isSome.mpr ⟨e, he, beq_iff_eq.mpr hp⟩
      obtain ⟨d, hd⟩ := Option.isSome_iff_exists.mp hsome
      exact ⟨d, hd, beq_iff_eq.mp (List.find?_some (p := fun e : Port × TableWrite => e.1 == p) hd)⟩
    obtain ⟨-, before, after, hk, hbefore⟩ := List.find?_eq_some_iff_append.mp he
    obtain ⟨q, w⟩ := e
    obtain rfl : q = p := hp
    have hothers : ∀ e ∈ before, e.1 ≠ q := fun e he => by simpa using hbefore e he
    rw [Kept.finish_of_split hk hothers]
    have hsublist : (before.filter (fun e => !e.2.sameEntry w) ++ after).Sublist (before ++ after) :=
      List.filter_sublist.append_right after
    rw [hk, List.map_append, List.map_cons, List.nodup_middle, List.nodup_cons, ← List.map_append] at hnodup
    refine ⟨hnodup.2.sublist (hsublist.map Prod.fst), fun e he => ?_⟩
    have hmem := hsublist.subset he
    refine ⟨?_, fun hport => hnodup.1 ?_⟩
    · rw [hk]
      simp only [List.mem_append, List.mem_cons] at hmem ⊢
      exact hmem.imp_right .inr
    · have hfst := List.mem_map_of_mem (f := Prod.fst) hmem
      rwa [hport] at hfst

/-- The end of an execution keeps the account. -/
theorem keptOk_ended (h : KeptOk s) (p : Port) : KeptOk ((s.commit p).modPort p PortCtl.finish) := by
  cases hb : (s.port p).isBusy with
  | false =>
    have hcmd : ∀ r b, (s.port p).cmd ≠ .busy r b := fun r b e => by
      rw [isBusy_of_cmd e] at hb
      cases hb
    rw [State.commit_of_free hb, State.modPort_self (finish_of_not_busy hcmd)]
    exact h
  | true =>
    rw [State.commit_of_busy hb]
    obtain ⟨hcal, hcurves, hnodup, hbusy⟩ := h
    obtain ⟨hrcal, hrcurves⟩ := replayed_finish s.kept p
    obtain ⟨hnodup', hmem⟩ := finish_underWay s.kept p hnodup
    refine ⟨hrcal.trans hcal, hrcurves.trans hcurves, hnodup', fun e he => ?_⟩
    obtain ⟨hold, hne⟩ := hmem e he
    rw [State.port_modPort, if_neg hne]
    exact hbusy e hold

/-- The begin of an execution: its write is the latest under way (R178). -/
theorem keptOk_begun (h : KeptOk s) (p : Port) (code : BitVec 8) (tag : BitVec 4) (a : Answer) {w : Option TableWrite}
    (hx : PressAndAccount q s x) (hstored : w = none ∧ ¬ WritesTable q ∨ Stored s x w) (hfree : (s.port p).isBusy = false) :
    KeptOk (x.beginExecution p code tag a w) := by
  obtain ⟨hcal, hcurves, hnodup, hbusy⟩ := h
  have hstored' : Stored s x w := hstored.elim (fun h => h.1 ▸ hx.tables h.2) id
  have hports : ∀ e ∈ s.kept.underWay, e.1 ≠ p ∧ ((x.beginExecution p code tag a w).port e.1).isBusy = true := fun e he => by
    have hne : e.1 ≠ p := fun e' => by
      have := hbusy e he
      rw [e', hfree] at this
      cases this
    refine ⟨hne, ?_⟩
    rw [State.port_beginExecution, if_neg hne, isBusy_congr (hx.cmd e.1)]
    exact hbusy e he
  have hkept : (x.beginExecution p code tag a w).kept = s.kept.note p w := congrArg (fun k => Kept.note k p w) hx.kept
  have hp : ((x.beginExecution p code tag a w).port p).isBusy = true := by
    rw [State.port_beginExecution, if_pos rfl]
    rfl
  unfold KeptOk
  rw [hkept]
  cases w with
  | none =>
    obtain ⟨hxcal, hxcurves⟩ := hstored'
    exact ⟨hcal.trans hxcal.symm, hcurves.trans hxcurves.symm, hnodup, fun e he => (hports e he).2⟩
  | some v =>
    obtain ⟨hrcal, hrcurves⟩ := replayed_note s.kept p v
    obtain ⟨hxcal, hxcurves⟩ := hstored' (replayed s.kept) hcal hcurves
    have hunder : (s.kept.note p (some v)).underWay = s.kept.underWay ++ [(p, v)] := rfl
    refine ⟨hrcal.trans hxcal, hrcurves.trans hxcurves, ?_, fun e he => ?_⟩
    · rw [hunder, List.map_append, List.nodup_append]
      refine ⟨hnodup, List.nodup_singleton _, ?_⟩
      rintro a ha b hb rfl
      obtain ⟨e, he, rfl⟩ := List.mem_map.mp ha
      exact (hports e he).1 (List.mem_singleton.mp hb)
    · rw [hunder] at he
      rcases List.mem_append.mp he with he | he
      · exact (hports e he).2
      · obtain rfl := List.mem_singleton.mp he
        exact hp

/-- Every command keeps the account. -/
theorem keptOk_effect (h : KeptOk s) (ht : Effect s t) : KeptOk t := by
  cases ht with
  | quiet hframe hfreeze hphase hbusy =>
    refine keptOk_congr h ?_ ?_ ?_ hbusy
    all_goals rw [hframe]
  | ended p => exact keptOk_ended h p
  | reset hframe htables =>
    obtain ⟨hcal, hcurves, hkept⟩ | ⟨hcal, hcurves, hkept⟩ := htables
    · refine keptOk_of_no_writes ?_ ?_ ?_
      · rw [hkept, hcal]
        rfl
      · rw [hkept, hcurves]
        rfl
      · rw [hkept]
        rfl
    · refine keptOk_of_no_writes ?_ ?_ ?_
      · rw [hkept, hcal]
        rfl
      · rw [hkept, hcurves]
        rfl
      · rw [hkept]
        rfl
  | sched x hsched hlines => exact keptOk_sched h (hsched.trans (.settle x))
  | line u l hlines => exact keptOk_sched h (.setLine s u l)
  | grant u hpick hlines => exact keptOk_sched h (.grant hpick)
  | freezeOn l hl =>
    exact keptOk_sched (s := { s with press := { s.press with freeze := l } }) h ((sched_freezeAsserted _).trans (.post _ _))
  | freezeOff l hl => exact keptOk_sched (s := { s with press := { s.press with freeze := l } }) h (.post _ _)
  | supplyOn l hw =>
    exact keptOk_sched (s := { s with supply := { s.supply with ok := l, state := .on, warmUp := none } }) h (.settle _)
  | supplyLost l hon =>
    let failed : State := { s with supply := { s.supply with ok := l, state := .failed, warmUp := none, standby := none } }
    have hfold : Sched failed (failed.zoneIds.foldl (fun t q => t.loseZone q.1 q.2) failed) :=
      sched_foldl (f := fun (t : State) (q : Nat × Nat) => t.loseZone q.1 q.2) (fun t q => sched_loseZone t q.1 q.2) _ _
    exact keptOk_sched (s := failed) h ((hfold.trans (.post _ .supplyAlert)).trans (.settle _))
  | warmUpOver hw =>
    exact keptOk_sched (s := { s with supply := { s.supply with state := .failed, warmUp := none } }) h (.post _ _)
  | standbyOver hs => exact h
  | @request q p code tag a x w hbody hrun hw hfree hstored =>
    have hx := pressAndAccount_body hbody
    have hall : PressAndAccount q s x :=
      ⟨hx.press, hx.kept, fun r => (hx.cmd r).trans (cmd_shiftZero s p r), fun hq => hx.tables hq⟩
    exact keptOk_begun h p code tag a hall hstored hfree

end

/-! ### The resets -/

/-- What a reset leaves, the two tables apart, and what it keeps of them. -/
def ResetKeeps (s t : State) : Prop :=
  ResetLeaves s t ∧ t.cal = s.kept.cal ∧ t.curves = s.kept.curves ∧ t.kept = ⟨t.cal, t.curves, []⟩ ∧
    (KeptOk s → openWrites s = [] → SameTables s t)

theorem sameTables_of {s t : State} (hcal : t.cal = s.cal) (hcurves : t.curves = s.curves) : SameTables s t :=
  ⟨fun k => by rw [State.curve?, hcurves]; rfl, fun u z => by rw [State.calEntry, hcal]; rfl⟩

theorem resetKeeps_of {s t : State} (hleaves : ResetLeaves s t) (hcal : t.cal = s.kept.cal) (hcurves : t.curves = s.kept.curves)
    (hkept : t.kept = s.kept.discard) : ResetKeeps s t := by
  refine ⟨hleaves, hcal, hcurves, ?_, fun h hopen => ?_⟩
  · rw [hkept, hcal, hcurves]
    rfl
  · obtain ⟨h1, h2⟩ := tables_of_no_writes h hopen
    exact sameTables_of (hcal.trans h1) (hcurves.trans h2)

theorem resetKeeps_toHeld (s : State) (pin : Bool) : ResetKeeps s (s.setResetPin pin).toHeld :=
  resetKeeps_of (resetLeaves_toPowerOn s) rfl rfl rfl

/-- DEVICE RESET at a free Console Port (R174). -/
theorem exec_deviceReset {s : State} {f : Frame} (hfree : Free s .console) (hf : Carries f .console []) :
    exec (.deviceReset f) s = .next (s.shiftZero .console).toHeld.endReset := by
  have hpass : frameRefusal .deviceReset f (s.shiftZero f.port).device = none := hf.passes rfl rfl nofun
  obtain ⟨hport, -⟩ := hf
  rw [show Instr.deviceReset f = command .deviceReset f from rfl, exec_command (by decide),
    takeRequest_of_free f _ hfree.1 (hport ▸ hfree.not_busy), requestTaken, if_pos rfl, hpass, hport]

theorem exec_resetLineFall {s : State} (hpin : s.press.resetPin = true) (hphase : s.press.phase ≠ .startUp) :
    exec .resetLineFall s = .next (s.setResetPin false).toHeld := by
  change execResetLineFall s = _
  rw [execResetLineFall, hpin, if_neg (by decide), if_neg hphase]

/-- Settles O19: what the two resets leave, and the account of the kept tables along every step. -/
theorem resetsKeepTheTwoTables : Obligations.ResetsKeepTheTwoTables := by
  refine ⟨fun s hpin hphase => ⟨_, exec_resetLineFall hpin hphase, resetKeeps_toHeld s false, rfl, rfl⟩, fun s hpin hheld => ?_,
    fun s f hfree hf => ⟨_, exec_deviceReset hfree hf, ?_, rfl⟩, fun s t q f hq h => ?_,
        fun s t v q f hkept hopen hfree hq h => ?_,
    fun s t hs h => ?_⟩
  · change execResetLineRise s = _
    rw [execResetLineRise, hpin, if_neg (by decide), if_pos hheld]
    rfl
  · exact resetKeeps_of (resetLeaves_toPowerOn s) rfl rfl rfl
  · obtain ⟨-, hcal, hcurves, hsame⟩ := press_and_kept_of_command hq h
    exact ⟨hcal, hcurves, fun h1 h2 h3 => hsame fun hw => hw.elim h1 fun hw => hw.elim h2 h3⟩
  · obtain ⟨hpress, hcal, hcurves, -⟩ := press_and_kept_of_command hq h
    obtain ⟨hscal, hscurves⟩ := tables_of_no_writes hkept hopen
    refine ⟨fun hpin hfall => ?_, fun d _ hfree' hd hreset => ?_⟩
    · rw [exec_resetLineFall (hpress ▸ hpin) (by rw [hpress, hfree.1]; decide)] at hfall
      cases hfall
      exact sameTables_of (hcal.trans hscal) (hcurves.trans hscurves)
    · rw [exec_deviceReset hfree' hd] at hreset
      cases hreset
      exact sameTables_of (hcal.trans hscal) (hcurves.trans hscurves)
  · exact step_keeps_of_effect (P := KeptOk) (fun s l h => h) (fun s t => keptOk_effect) hs h

end Sys2Proof.Claims
end

section
/-! PROOF. The order of a turn's places: the halt pass, the lowest due poll or retry, a granted MOVE, the lowest survey SENSE
(R149 to R153). -/

namespace Sys2Proof.Claims

open Sys2Proof.Machine Sys2Proof.Safety

/-! ### The zones of a unit in ascending order -/

theorem unitZones_ascend {s : State} (h : RecordsOk s) (u : Nat) : (s.unitZones u).Pairwise fun a b => a.zone < b.zone := by
  have hbefore := (List.pairwise_map.mp (records_before h)).filter fun r : ZoneRec => r.unit == u
  refine hbefore.imp_of_mem fun {a b} ha hb hab => ?_
  have hunits : a.unit = b.unit := (mem_unitZones.mp ha).2.trans (mem_unitZones.mp hb).2.symm
  obtain hlt | ⟨-, hlt⟩ := hab
  · exact absurd hunits hlt.ne
  · exact hlt

/-- In ascending order the first element of a kind is its least. -/
theorem find?_of_least {α : Type} {f : α → Nat} {p : α → Bool} {l : List α} (hl : l.Pairwise fun a b => f a < f b) {a : α}
    (ha : a ∈ l) (hp : p a = true) (hleast : ∀ b ∈ l, p b = true → f a ≤ f b) : l.find? p = some a := by
  induction l with
  | nil => cases ha
  | cons x l ih =>
    obtain ⟨hx, hrest⟩ := List.pairwise_cons.mp hl
    rcases List.mem_cons.mp ha with rfl | hmem
    · exact List.find?_cons_of_pos hp
    · have hxp : p x ≠ true := fun e => absurd (hleast x List.mem_cons_self e) (not_le.mpr (hx a hmem))
      rw [List.find?_cons_of_neg hxp]
      exact ih hrest hmem fun b hb => hleast b (List.mem_cons_of_mem x hb)

/-- In ascending order the head is the least. -/
theorem head?_of_least {l : List Nat} (hl : l.Pairwise (· < ·)) {a : Nat} (ha : a ∈ l) (hleast : ∀ b ∈ l, a ≤ b) :
    l.head? = some a := by
  cases l with
  | nil => cases ha
  | cons x l =>
    have hx := (List.pairwise_cons.mp hl).1
    rcases List.mem_cons.mp ha with rfl | hmem
    · rfl
    · exact absurd (hleast x List.mem_cons_self) (not_le.mpr (hx a hmem))

section
variable {s : State} (hrecords : RecordsOk s)
include hrecords

/-- The records of a unit that are of a kind, by their zone numbers. -/
theorem exists_zone_iff (u : Nat) (P : ZoneRec → Prop) (z : Nat) :
    (∃ r ∈ s.unitZones u, P r ∧ r.zone = z) ↔ ∃ r, s.zone? u z = some r ∧ P r := by
  constructor
  · rintro ⟨r, hr, hP, rfl⟩
    obtain ⟨hmem, rfl⟩ := mem_unitZones.mp hr
    exact ⟨r, records_zone?_of_mem hrecords hmem, hP⟩
  · rintro ⟨r, hr, hP⟩
    obtain ⟨hmem, hunit, hzone⟩ := State.zone?_some hr
    exact ⟨r, mem_unitZones.mpr ⟨hmem, hunit⟩, hP, hzone⟩

/-! ### Place 1 -/

/-- The HALT of the pass: the lowest waiting zone after the mark, or the lowest of all (R150). -/
theorem haltChoice_of_next {u z : Nat} (hz : ∃ r, s.zone? u z = some r ∧ haltWaits r)
    (hnext : match (s.line u).haltMark with
      | none => ∀ y, (∃ r, s.zone? u y = some r ∧ haltWaits r) → z ≤ y
      | some m => (m < z ∧ ∀ y, (∃ r, s.zone? u y = some r ∧ haltWaits r) → m < y → z ≤ y) ∨
          ((∀ y, (∃ r, s.zone? u y = some r ∧ haltWaits r) → y ≤ m) ∧
            ∀ y, (∃ r, s.zone? u y = some r ∧ haltWaits r) → z ≤ y)) : s.haltChoice u = some z := by
  have hascend : (((s.unitZones u).filter ZoneRec.haltPending).map ZoneRec.zone).Pairwise (· < ·) :=
    List.pairwise_map.mpr ((unitZones_ascend hrecords u).filter _)
  have hmem : ∀ y, y ∈ ((s.unitZones u).filter ZoneRec.haltPending).map ZoneRec.zone ↔
      ∃ r, s.zone? u y = some r ∧ haltWaits r := fun y => by
    rw [← exists_zone_iff hrecords u haltWaits y]
    simp only [List.mem_map, List.mem_filter, haltPending_iff, and_assoc]
  unfold State.haltChoice
  dsimp only
  generalize ((s.unitZones u).filter ZoneRec.haltPending).map ZoneRec.zone = waiting at hascend hmem
  cases hmark : (s.line u).haltMark with
  | none =>
    rw [hmark] at hnext
    exact head?_of_least hascend ((hmem z).mpr hz) fun y hy => hnext y ((hmem y).mp hy)
  | some m =>
    rw [hmark] at hnext
    dsimp only
    obtain ⟨hafter, hleast⟩ | ⟨hover, hleast⟩ := hnext
    · rw [find?_of_least (f := id) hascend ((hmem z).mpr hz) (decide_eq_true hafter) fun y hy hmy =>
        hleast y ((hmem y).mp hy) (of_decide_eq_true hmy)]
    · have hnone : waiting.find? (fun y => decide (m < y)) = none := List.find?_eq_none.mpr fun y hy => by
        simpa using hover y ((hmem y).mp hy)
      rw [hnone]
      exact head?_of_least hascend ((hmem z).mpr hz) fun y hy => hleast y ((hmem y).mp hy)

theorem haltChoice_of_none {u : Nat} (h : ∀ z, ¬ ∃ r, s.zone? u z = some r ∧ haltWaits r) : s.haltChoice u = none :=
  haltChoice_eq_none fun r hr hunit hwaits => h r.zone ⟨r, hunit ▸ records_zone?_of_mem hrecords hr, hwaits⟩

/-! ### Place 4 -/

/-- The survey SENSE of the lowest zone that waits for one (R153). -/
theorem surveyChoice_of_least {u z : Nat} {r : ZoneRec} (hr : s.zone? u z = some r) (hwaits : surveyWaits r)
    (hleast : ∀ y < z, ∀ q, s.zone? u y = some q → ¬ surveyWaits q) : s.surveyChoice u = some z := by
  obtain ⟨hmem, hunit, hzone⟩ := State.zone?_some hr
  have hfind : (s.unitZones u).find? ZoneRec.surveyOffered = some r :=
    find?_of_least (unitZones_ascend hrecords u) (mem_unitZones.mpr ⟨hmem, hunit⟩)
        ((surveyOffered_iff r).mpr hwaits) fun q hq hp => by
      by_contra hlt
      obtain ⟨hqmem, hqunit⟩ := mem_unitZones.mp hq
      exact hleast q.zone (by omega) q (hqunit ▸ records_zone?_of_mem hrecords hqmem) ((surveyOffered_iff q).mp hp)
  rw [State.surveyChoice, hfind, Option.map_some, hzone]

end

/-! ### Place 2 -/

/-- The zone has neither a due poll nor a due retry that acts: one that waits under HOLD and is not stale (R122). -/
def PassedBy (s : State) (u z : Nat) : Prop :=
  (¬ ∃ r, s.zone? u z = some r ∧ pollWaits s r) ∧
    ((∃ r, s.zone? u z = some r ∧ retryWaits r) → s.hold = true ∧ ∀ r, s.zone? u z = some r → r.stale = false)

section
variable {s : State} {u : Nat}

/-- No retry is due under FREEZE (R129). -/
theorem not_frozen_of_retryWaits (hfreeze : FreezeOk s) {z : Nat} {r : ZoneRec} (hr : s.zone? u z = some r) (h : retryWaits r) :
    s.press.freeze.filtered = false := by
  by_contra hf
  have hnone := hfreeze (by simpa using hf) r (State.zone?_some hr).1
  rw [h.2.2] at hnone
  cases hnone

theorem pollsAndRetries_passed (hfreeze : FreezeOk s) {before after : List Nat} (h : ∀ y ∈ before, PassedBy s u y) :
    pollsAndRetries u (before ++ after) s = pollsAndRetries u after s := by
  induction before with
  | nil => rfl
  | cons z before ih =>
    have hrest := ih fun y hy => h y (List.mem_cons_of_mem z hy)
    obtain ⟨hpoll, hretry⟩ := h z List.mem_cons_self
    rw [List.cons_append, pollsAndRetries]
    cases hr : s.zone? u z with
    | none => exact hrest
    | some r =>
      have hnopoll : ¬ r.pollIsDue s.clock.now.ms = true := fun e => hpoll ⟨r, hr, (pollIsDue_iff s r).mp e⟩
      simp only [if_neg hnopoll]
      split_ifs with hdue hstale hf hhold
      · have hnot := (hretry ⟨r, hr, (retryIsDue_iff r).mp hdue⟩).2 r hr
        rw [hnot] at hstale
        cases hstale
      · rw [not_frozen_of_retryWaits hfreeze hr ((retryIsDue_iff r).mp hdue)] at hf
        cases hf
      · exact hrest
      · exact absurd (hretry ⟨r, hr, (retryIsDue_iff r).mp hdue⟩).1 hhold
      · exact hrest

/-- The unit's zones before and after one of them. -/
theorem unit_split (hrecords : RecordsOk s) {z : Nat} {r : ZoneRec} (hr : s.zone? u z = some r) :
    ∃ before after, (s.unitZones u).map ZoneRec.zone = before ++ z :: after ∧ ∀ y ∈ before, y < z := by
  obtain ⟨hmem, hunit, hzone⟩ := State.zone?_some hr
  have hz : z ∈ (s.unitZones u).map ZoneRec.zone := List.mem_map.mpr ⟨r, mem_unitZones.mpr ⟨hmem, hunit⟩, hzone⟩
  obtain ⟨before, after, he⟩ := List.append_of_mem hz
  have hascend : ((s.unitZones u).map ZoneRec.zone).Pairwise (· < ·) := List.pairwise_map.mpr (unitZones_ascend hrecords u)
  rw [he] at hascend
  exact ⟨before, after, he, fun y hy => (List.pairwise_append.mp hascend).2.2 y hy z List.mem_cons_self⟩

/-- The second place at one of the unit's zones, those before it passed by (R151). -/
theorem pollsAndRetries_at (hrecords : RecordsOk s) (hfreeze : FreezeOk s) {z : Nat} {r : ZoneRec} (hr : s.zone? u z = some r)
    (hpassed : ∀ y < z, PassedBy s u y) :
    ∃ after, pollsAndRetries u ((s.unitZones u).map ZoneRec.zone) s = pollsAndRetries u (z :: after) s := by
  obtain ⟨before, after, he, hbefore⟩ := unit_split hrecords hr
  exact ⟨after, by rw [he, pollsAndRetries_passed hfreeze fun y hy => hpassed y (hbefore y hy)]⟩

theorem pollsAndRetries_all_passed (hfreeze : FreezeOk s) (hpassed : ∀ y, PassedBy s u y) (zs : List Nat) :
    pollsAndRetries u zs s = (s, false) := by
  have h := pollsAndRetries_passed (after := []) hfreeze (before := zs) fun y _ => hpassed y
  rwa [List.append_nil] at h

theorem pollsAndRetries_cons_poll {z : Nat} {zs : List Nat} {r : ZoneRec} (hr : s.zone? u z = some r) (h : pollWaits s r) :
    pollsAndRetries u (z :: zs) s = (s.startPoll u z r.pollDue, true) := by
  simp only [pollsAndRetries, hr, if_pos ((pollIsDue_iff s r).mpr h)]

theorem pollsAndRetries_cons_retry {z : Nat} {zs : List Nat} {r : ZoneRec} (hr : s.zone? u z = some r) (hno : ¬ pollWaits s r)
    (h : retryWaits r) (hfresh : r.stale = false) (hf : s.press.freeze.filtered = false) (hhold : s.hold = false) :
    pollsAndRetries u (z :: zs) s = (s.startRetry u z, true) := by
  have hnopoll : ¬ r.pollIsDue s.clock.now.ms = true := mt (pollIsDue_iff s r).mp hno
  simp only [pollsAndRetries, hr, if_neg hnopoll, if_pos ((retryIsDue_iff r).mpr h), hfresh, hf, hhold, Bool.false_eq_true,
      if_false]

theorem pollsAndRetries_cons_stale {z : Nat} {zs : List Nat} {r : ZoneRec} (hr : s.zone? u z = some r) (hno : ¬ pollWaits s r)
    (h : retryWaits r) (hstale : r.stale = true) : pollsAndRetries u (z :: zs) s = pollsAndRetries u zs (s.evaluate u z) := by
  have hnopoll : ¬ r.pollIsDue s.clock.now.ms = true := mt (pollIsDue_iff s r).mp hno
  simp only [pollsAndRetries, hr, if_neg hnopoll, if_pos ((retryIsDue_iff r).mpr h), hstale, if_true]

theorem pollsAndRetries_cons_idle {z : Nat} {zs : List Nat} (h : ∀ r, s.zone? u z = some r → ¬ pollWaits s r ∧ ¬ retryWaits r) :
    pollsAndRetries u (z :: zs) s = pollsAndRetries u zs s := by
  rw [pollsAndRetries]
  cases hr : s.zone? u z with
  | none => rfl
  | some r =>
    obtain ⟨hpoll, hretry⟩ := h r hr
    simp only [if_neg (mt (pollIsDue_iff s r).mp hpoll), if_neg (mt (retryIsDue_iff r).mp hretry)]

/-! ### The transactions of place 2 -/

theorem startPoll_eq (s : State) (u z : Nat) (saved : Option PollDue) :
    s.startPoll u z saved =
      { s with zones := zoneSet s u z (fun q => { q with pollDue := none }) }.setLine u (sending s u z .sense none saved) := by
  rw [State.startPoll, modZone_eq, startTransaction_eq]
  rfl

/-- The target ticks of a MOVE are those of the zone's target, whatever else of its record changes (R66). -/
theorem moveTicks_modZone {z : Nat} {r : ZoneRec} (hr : s.zone? u z = some r) {f : ZoneRec → ZoneRec}
    (hplace : ∀ q, place (f q) = place q) (htarget : ∀ q, (f q).target = q.target) :
    (s.modZone u z f).moveTicks u z = moveTicksOf s u z r := by
  rw [State.moveTicks, zone?_modZone_same hplace hr, moveTicksOf, targetTicks, Option.bind_some, htarget]
  rfl

theorem startRetry_eq {z : Nat} {r : ZoneRec} (hr : s.zone? u z = some r) :
    s.startRetry u z =
      { s with zones := zoneSet s u z (fun q => { q with retryDue := false, moveStart := some s.clock.now.ms }) }.setLine u
        (sending s u z .move (some (moveTicksOf s u z r)) none) := by
  have hticks := moveTicks_modZone hr (f := fun q => { q with retryDue := false, moveStart := some s.clock.now.ms })
    (fun _ => rfl) fun _ => rfl
  rw [State.startRetry, State.startMove, hticks, modZone_eq, startTransaction_eq]
  rfl

/-! ### The tests after an event that changes no key state -/

/-- Where the timers' laws hold the tests that follow an event change nothing (R51, R160). -/
theorem settle_of_timersOk (h : TimersOk s) : s.settle = s := by
  obtain ⟨hstandby, -, -, hwaits⟩ := h
  have hrefresh : s.standbyRefresh = s := standbyRefresh_of_not_starts fun ⟨hcondition, hnone, hset⟩ => by
    have hsome := hstandby.mpr ⟨(standbyCondition_iff s).mpr hcondition, hset⟩
    rw [hnone] at hsome
    cases hsome
  rw [State.settle, hrefresh]
  refine presetTest_of_not_over fun ⟨hpreset, hover⟩ => ?_
  obtain ⟨r, hr, hstate⟩ := hwaits hpreset
  obtain ⟨hqueued, hmoving, hunknown⟩ := hover r hr
  exact hstate.elim hqueued fun h => h.elim hmoving hunknown

/-- A change of records within their key states, with a line written, is followed by no change. -/
theorem settle_of_same_states (h : TimersOk s) {g : ZoneRec → ZoneRec} (hstate : ∀ q, (g q).state = q.state) (z : Nat) (l :
    Line) :
    (({ s with zones := zoneSet s u z g } : State).setLine u l).settle =
      ({ s with zones := zoneSet s u z g } : State).setLine u l :=
  settle_of_timersOk (s := ({ s with zones := zoneSet s u z g } : State).setLine u l)
    (timersOk_congr h (zoneSet_map_eq hstate) rfl rfl rfl rfl)

/-! ### A stale retry -/

/-- Another zone's record after one zone's is replaced. -/
theorem zone?_of_zoneSet {y : State} {z : Nat} {r' : ZoneRec} (hy : y.zones = zoneSet s u z fun _ => r')
    (hplace : place r' = (u, z)) (v w : Nat) :
    y.zone? v w = if v = u ∧ w = z then (s.zone? v w).map fun _ => r' else s.zone? v w := by
  have hfind : y.zone? v w = (s.zone? v w).map fun r => if r.unit = u ∧ r.zone = z then r' else r := by
    rw [State.zone?, hy, zoneSet, find?_map_isZone]
    · rfl
    · intro r
      split_ifs with h
      · exact place_eq_iff.mp (hplace.trans (Prod.ext h.1.symm h.2.symm))
      · exact ⟨rfl, rfl⟩
  rw [hfind]
  cases hr : s.zone? v w with
  | none => split_ifs <;> rfl
  | some r =>
    obtain ⟨-, rfl, rfl⟩ := State.zone?_some hr
    split_ifs with h <;> simp [h]

/-- A MOVING zone's evaluation: its record at rest, every other as it was (R107). -/
theorem zone?_evaluate (hs : Base s) {z : Nat} {r : ZoneRec} (hr : s.zone? u z = some r) (hmoving : r.state = .moving)
    (v w : Nat) :
    (s.evaluate u z).zone? v w = if v = u ∧ w = z then some (evaluated s r) else s.zone? v w := by
  obtain ⟨-, hunit, hzone⟩ := State.zone?_some hr
  have hzones := (handles_evaluate hs.records hr (by rw [hmoving]; decide) (by rw [hmoving]; decide)).zones
  rw [hunit, hzone] at hzones
  rw [zone?_of_zoneSet hzones ((evaluated_place s r).trans (place_eq_iff.mpr ⟨hunit, hzone⟩))]
  split_ifs with h
  · obtain ⟨rfl, rfl⟩ := h
    rw [hr]
    rfl
  · rfl

theorem evaluated_at_rest (s : State) {r : ZoneRec} (hmeasured : r.measured.isSome) :
    (evaluated s r).state = .idle ∨ (evaluated s r).state = .settled ∨ (evaluated s r).state = .queued := by
  obtain ⟨p, hp⟩ := Option.isSome_iff_exists.mp hmeasured
  unfold evaluated
  cases r.target with
  | none => exact .inl rfl
  | some t =>
    rw [hp]
    dsimp only
    split_ifs
    exacts [.inr (.inl rfl), .inr (.inl rfl), .inr (.inr rfl)]

/-- A zone at rest offers its line no work (R106). -/
theorem no_work_at_rest {r : ZoneRec} (h : r.state = .idle ∨ r.state = .settled ∨ r.state = .queued) :
    ¬ haltWaits r ∧ ¬ pollWaits s r ∧ ¬ retryWaits r := by
  have hstate : r.state ≠ .moving ∧ r.state ≠ .unknown := by rcases h with h | h | h <;> rw [h] <;> decide
  exact ⟨fun e => e.1.elim hstate.1 hstate.2, fun e => hstate.1 e.1, fun e => hstate.1 e.1⟩

theorem unitZones_places {s t : State} (h : Moves s t) (u : Nat) :
    (t.unitZones u).map ZoneRec.zone = (s.unitZones u).map ZoneRec.zone := by
  have hplaces : ∀ x : State, (x.unitZones u).map ZoneRec.zone = ((x.zones.map place).filter fun q => q.1 == u).map Prod.snd := by
    intro x
    rw [State.unitZones, List.filter_map, List.map_map]
    rfl
  rw [hplaces, hplaces]
  exact congrArg (fun l => (l.filter fun q : Nat × Nat => q.1 == u).map Prod.snd) h.pairs

end

end Sys2Proof.Claims
end

section
/-! PROOF. What a turn does: the walk of its second place, and the transaction of the first place with work (R149 to R153). -/

namespace Sys2Proof.Claims

open Sys2Proof.Machine Sys2Proof.Safety

/-! ### The walk over the zones of the second place -/

/-- The zones `zs` of unit u passed by: stale retries among them evaluated, everything else as it was (R122, R151). -/
structure Walked (u : Nat) (s y : State) (zs : List Nat) : Prop where
  sched : Sched s y
  moves : Moves s y
  others : ∀ z, z ∉ zs → y.zone? u z = s.zone? u z
  each : ∀ z ∈ zs, y.zone? u z = s.zone? u z ∨ ∃ r, s.zone? u z = some r ∧ retryWaits r ∧ r.stale = true
  noPoll : ∀ z ∈ zs, ∀ r, s.zone? u z = some r → ¬ pollWaits s r
  count : y.movingCount ≤ s.movingCount
  supply : y = s ∨ s.supply.state = .on

section
variable {s y : State} {u z : Nat} {zs : List Nat} {r : ZoneRec}

theorem walked_nil (s : State) (u : Nat) : Walked u s s [] :=
  ⟨.refl s, .refl s, fun _ _ => rfl, nofun, nofun, le_rfl, .inl rfl⟩

/-- A zone that is passed by without a change. -/
theorem Walked.pass (h : Walked u s y zs) (hz : z ∉ zs) (hno : ∀ r, s.zone? u z = some r → ¬ pollWaits s r) :
    Walked u s y (z :: zs) where
  sched := h.sched
  moves := h.moves
  others w hw := h.others w fun hmem => hw (List.mem_cons_of_mem z hmem)
  each w hw := by
    rcases List.mem_cons.mp hw with rfl | hw
    exacts [.inl (h.others w hz), h.each w hw]
  noPoll w hw := by
    rcases List.mem_cons.mp hw with rfl | hw
    exacts [hno, h.noPoll w hw]
  count := h.count
  supply := h.supply

theorem pollWaits_congr {t : State} (h : t.clock = s.clock) (r : ZoneRec) : pollWaits t r ↔ pollWaits s r := by
  unfold pollWaits
  rw [h]

/-- Fewer zones are MOVING after the evaluation of one. -/
theorem evaluate_movingCount (hs : Base s) (hr : s.zone? u z = some r) (hmoving : r.state = .moving) :
    (s.evaluate u z).movingCount ≤ s.movingCount := by
  have hmeasured := measured_isSome_of_state (.inr (.inr (.inr (.inl hmoving)))) (hs.laws r (State.zone?_some hr).1)
  have hrest := evaluated_at_rest s hmeasured
  have hzones := (handles_evaluate hs.records hr (by rw [hmoving]; decide) (by rw [hmoving]; decide)).zones
  rw [State.movingCount, hzones]
  refine countP_zoneSet_le fun q hq => ?_
  rw [beq_iff_eq] at hq
  rcases hrest with h | h | h <;> rw [h] at hq <;> cases hq

/-- A zone whose stale retry is evaluated, and the walk from there. -/
theorem Walked.evaluate (h : Walked u (s.evaluate u z) y zs) (hs : Scheduled s) (hz : z ∉ zs) (hr : s.zone? u z = some r)
    (hno : ¬ pollWaits s r) (hretry : retryWaits r) (hstale : r.stale = true) : Walked u s y (z :: zs) := by
  obtain ⟨hmoving, -, -⟩ := id hretry
  have hmoves := moves_evaluate s u z
  have hother : ∀ w, w ≠ z → (s.evaluate u z).zone? u w = s.zone? u w := fun w hw => by
    rw [zone?_evaluate hs.base hr hmoving, if_neg fun e => hw e.2]
  have hne : ∀ w ∈ zs, w ≠ z := fun w hw e => hz (e ▸ hw)
  have hsched : Sched s (s.evaluate u z) :=
    sched_evaluate hr (by rw [hmoving]; decide) (measured_isSome_of_state (by rw [hmoving]; decide))
  refine ⟨hsched.trans h.sched, hmoves.trans h.moves, fun w hw => ?_, fun w hw => ?_, fun w hw => ?_,
    h.count.trans (evaluate_movingCount hs.base hr hmoving), .inr (hs.moving r (State.zone?_some hr).1 hmoving)⟩
  · rw [List.mem_cons, not_or] at hw
    rw [h.others w hw.2, hother w hw.1]
  · rcases List.mem_cons.mp hw with rfl | hw
    · exact .inr ⟨r, hr, hretry, hstale⟩
    · rw [← hother w (hne w hw)]
      exact h.each w hw
  · rcases List.mem_cons.mp hw with rfl | hw
    · intro q hq
      obtain rfl := Option.some.inj (hr.symm.trans hq)
      exact hno
    · intro q hq
      rw [← hother w (hne w hw)] at hq
      exact mt (pollWaits_congr hmoves.clock q).mpr (h.noPoll w hw q hq)

/-- How the second place ends at zone z of record r, from `y`: its due poll, or its due retry that is not stale and does not
wait (R122, R151). -/
def EndsAt (u : Nat) (s y : State) (z : Nat) (r : ZoneRec) (result : State × Bool) : Prop :=
  pollWaits s r ∧ result = (y.startPoll u z r.pollDue, true) ∨
    (retryWaits r ∧ r.stale = false ∧ s.press.freeze.filtered = false ∧ s.hold = false) ∧ result = (y.startRetry u z, true)

theorem EndsAt.of_moves {s' : State} {result : State × Bool} (h : EndsAt u s' y z r result) (hm : Moves s s') :
    EndsAt u s y z r result := by
  have hpress : s'.press = s.press := by rw [hm.rest]
  have hhold : s'.hold = s.hold := by rw [hm.rest]
  unfold EndsAt at h ⊢
  rwa [pollWaits_congr hm.clock, hpress, hhold] at h

/-- The second place over the zones `zs` ends behind them all, or at the first with a transaction. -/
def WalkEnds (u : Nat) (s : State) (zs : List Nat) : Prop :=
  (∃ y, Walked u s y zs ∧ pollsAndRetries u zs s = (y, false)) ∨
    ∃ before z after y r, zs = before ++ z :: after ∧ Walked u s y before ∧ s.zone? u z = some r ∧ y.zone? u z = some r ∧
      EndsAt u s y z r (pollsAndRetries u zs s)

theorem WalkEnds.pass (h : WalkEnds u s zs) (hfreeze : FreezeOk s) (hz : z ∉ zs) (hpassed : PassedBy s u z) :
    WalkEnds u s (z :: zs) := by
  have hskip : pollsAndRetries u (z :: zs) s = pollsAndRetries u zs s :=
    pollsAndRetries_passed (before := [z]) hfreeze fun y hy => List.mem_singleton.mp hy ▸ hpassed
  have hno : ∀ r, s.zone? u z = some r → ¬ pollWaits s r := fun r hr hpoll => hpassed.1 ⟨r, hr, hpoll⟩
  obtain ⟨y, hy, he⟩ | ⟨before, w, after, y, r, hsplit, hy, hr, hyr, he⟩ := h
  · exact .inl ⟨y, hy.pass hz hno, hskip.trans he⟩
  · have hzb : z ∉ before := fun hmem => hz (hsplit ▸ List.mem_append_left _ hmem)
    exact .inr ⟨z :: before, w, after, y, r, by rw [hsplit]; rfl, hy.pass hzb hno, hr, hyr, hskip ▸ he⟩

theorem WalkEnds.evaluate (h : WalkEnds u (s.evaluate u z) zs) (hs : Scheduled s) (hz : z ∉ zs) (hr : s.zone? u z = some r)
    (hno : ¬ pollWaits s r) (hretry : retryWaits r) (hstale : r.stale = true) : WalkEnds u s (z :: zs) := by
  have hstep := pollsAndRetries_cons_stale (zs := zs) hr hno hretry hstale
  obtain ⟨y, hy, he⟩ | ⟨before, w, after, y, q, hsplit, hy, hq, hyq, he⟩ := h
  · exact .inl ⟨y, hy.evaluate hs hz hr hno hretry hstale, hstep.trans he⟩
  · have hzb : z ∉ before := fun hmem => hz (hsplit ▸ List.mem_append_left _ hmem)
    have hne : w ≠ z := fun e => hz (hsplit ▸ e ▸ List.mem_append_right _ List.mem_cons_self)
    have hsame : s.zone? u w = some q := by rw [← hq, zone?_evaluate hs.base hr hretry.1, if_neg fun e => hne e.2]
    exact .inr ⟨z :: before, w, after, y, q, by rw [hsplit]; rfl, hy.evaluate hs hzb hr hno hretry hstale, hsame, hyq,
      (hstep ▸ he).of_moves (moves_evaluate s u z)⟩

/-- A zone that is not passed by has a due poll, or else a due retry that is stale or does not wait (R122). -/
theorem work_of_not_passed (h : ¬ PassedBy s u z) :
    ∃ r, s.zone? u z = some r ∧ (pollWaits s r ∨ ¬ pollWaits s r ∧ retryWaits r ∧
        (r.stale = true ∨ r.stale = false ∧ s.hold = false)) := by
  obtain hr | ⟨r, hr⟩ := Option.eq_none_or_eq_some (s.zone? u z)
  · refine absurd ⟨fun ⟨r, h, _⟩ => ?_, fun ⟨r, h, _⟩ => ?_⟩ h <;> rw [hr] at h <;> cases h
  · refine ⟨r, hr, ?_⟩
    have hsame : ∀ q, s.zone? u z = some q → q = r := fun q hq => Option.some.inj (hq.symm.trans hr)
    by_contra hno
    push Not at hno
    obtain ⟨hpoll, hretry⟩ := hno
    refine h ⟨fun ⟨q, hq, hw⟩ => hpoll (hsame q hq ▸ hw), fun ⟨q, hq, hw⟩ => ?_⟩
    obtain ⟨hstale, hhold⟩ := hretry hpoll (hsame q hq ▸ hw)
    have hfresh : r.stale = false := by simpa using hstale
    exact ⟨by simpa using hhold hfresh, fun q hq => hsame q hq ▸ hfresh⟩

theorem pollsAndRetries_cases (hs : Scheduled s) (hnodup : zs.Nodup) : WalkEnds u s zs := by
  induction zs generalizing s with
  | nil => exact .inl ⟨s, walked_nil s u, rfl⟩
  | cons z zs ih =>
    obtain ⟨hz, hrest⟩ := List.nodup_cons.mp hnodup
    by_cases hpassed : PassedBy s u z
    · exact (ih hs hrest).pass hs.freeze hz hpassed
    · obtain ⟨r, hr, hpoll | ⟨hpoll, hretry, hstale | ⟨hstale, hhold⟩⟩⟩ := work_of_not_passed hpassed
      · exact .inr ⟨[], z, zs, s, r, rfl, walked_nil s u, hr, hr, .inl ⟨hpoll, pollsAndRetries_cons_poll hr hpoll⟩⟩
      · have hsched : Sched s (s.evaluate u z) :=
          sched_evaluate hr (by rw [hretry.1]; decide) (measured_isSome_of_state (by rw [hretry.1]; decide))
        exact (ih (hs.sched hsched) hrest).evaluate hs hz hr hpoll hretry hstale
      · have hf := not_frozen_of_retryWaits hs.freeze hr hretry
        exact .inr ⟨[], z, zs, s, r, rfl, walked_nil s u, hr, hr,
          .inr ⟨⟨hretry, hstale, hf, hhold⟩, pollsAndRetries_cons_retry hr hpoll hretry hstale hf hhold⟩⟩

end

/-! ### The outcome of a turn -/

theorem unit_nodup {s : State} (h : RecordsOk s) (u : Nat) : ((s.unitZones u).map ZoneRec.zone).Nodup := by
  have hascend : ((s.unitZones u).map ZoneRec.zone).Pairwise (· < ·) := List.pairwise_map.mpr (unitZones_ascend h u)
  exact hascend.imp fun h => h.ne

theorem settle_line (x : State) (w : Nat) : x.settle.line w = x.line w := by
  rw [State.line, (moves_settle x).lines]
  rfl

section
variable {s : State} {u : Nat} (hu : 1 ≤ u) (hu8 : u ≤ 8)
include hu hu8

theorem startTransaction_sending (z : Nat) (v : Verb) (ticks : Option (BitVec 13)) (saved : Option PollDue) :
    ((s.startTransaction u z v ticks saved).line u).phase = .sending := by
  rw [startTransaction_eq, line_setLine_same hu hu8]
  rfl

/-- A due poll gives a FREE line a transaction (R148, R149). -/
theorem turn_sending_of_poll (hs : Scheduled s) (hfree : (s.line u).phase = .free) {z : Nat} {r : ZoneRec}
    (hr : s.zone? u z = some r) (hpoll : pollWaits s r) : ((s.turn u).line u).phase = .sending := by
  obtain ⟨hmem, hunit, hzone⟩ := State.zone?_some hr
  have hz : z ∈ (s.unitZones u).map ZoneRec.zone := List.mem_map.mpr ⟨r, mem_unitZones.mpr ⟨hmem, hunit⟩, hzone⟩
  obtain hhalt | ⟨y, hhalt⟩ := Option.eq_none_or_eq_some (s.haltChoice u)
  · rw [turn_of_no_halt hfree hhalt]
    obtain ⟨y, hy, -⟩ | ⟨_, w, _, y, q, -, -, -, -, ⟨-, he⟩ | ⟨-, he⟩⟩ := pollsAndRetries_cases (u := u) hs
        (unit_nodup hs.base.records u)
    · exact absurd hpoll (hy.noPoll z hz r hr)
    · rw [he, if_pos rfl, settle_line]
      exact startTransaction_sending hu hu8 ..
    · rw [he, if_pos rfl, settle_line]
      exact startTransaction_sending hu hu8 ..
  · rw [State.turn, if_pos hfree, hhalt]
    exact startTransaction_sending hu hu8 ..

end

/-- The turn goes on from the evaluation of a stale retry (R122). -/
theorem turn_evaluate {s : State} {u z : Nat} {r : ZoneRec} (hs : Scheduled s) (hfree : (s.line u).phase = .free)
    (hhalt : ∀ y, ¬ ∃ q, s.zone? u y = some q ∧ haltWaits q) (hr : s.zone? u z = some r) (hretry : retryWaits r)
    (hno : ¬ pollWaits s r) (hstale : r.stale = true) (hpassed : ∀ y < z, PassedBy s u y) :
    s.turn u = (s.evaluate u z).turn u := by
  obtain ⟨hmoving, -, -⟩ := id hretry
  have hmoves := moves_evaluate s u z
  have hsched : Sched s (s.evaluate u z) :=
    sched_evaluate hr (by rw [hmoving]; decide) (measured_isSome_of_state (by rw [hmoving]; decide))
  have hs' := hs.sched hsched
  have hrest := no_work_at_rest (s := s.evaluate u z) (evaluated_at_rest s
    (measured_isSome_of_state (.inr (.inr (.inr (.inl hmoving)))) (hs.base.laws r (State.zone?_some hr).1)))
  have hzone : ∀ y, (s.evaluate u z).zone? u y = if y = z then some (evaluated s r) else s.zone? u y := fun y => by
    rw [zone?_evaluate hs.base hr hmoving]
    simp only [true_and]
  have hhalt' : ∀ y, ¬ ∃ q, (s.evaluate u z).zone? u y = some q ∧ haltWaits q := fun y ⟨q, hq, hw⟩ => by
    rw [hzone] at hq
    split_ifs at hq with hy
    · exact hrest.1 (Option.some.inj hq ▸ hw)
    · exact hhalt y ⟨q, hq, hw⟩
  have hpassed' : ∀ y < z, PassedBy (s.evaluate u z) u y := fun y hy => by
    have hhold : (s.evaluate u z).hold = s.hold := by rw [hmoves.rest]
    unfold PassedBy
    rw [hzone, if_neg hy.ne, hhold]
    simp only [pollWaits_congr hmoves.clock]
    exact hpassed y hy
  have hfree' : ((s.evaluate u z).line u).phase = .free := by
    rw [State.line, hmoves.lines]
    exact hfree
  have hwalk : pollsAndRetries u ((s.unitZones u).map ZoneRec.zone) s =
      pollsAndRetries u ((s.unitZones u).map ZoneRec.zone) (s.evaluate u z) := by
    obtain ⟨before, after, he, hbefore⟩ := unit_split hs.base.records hr
    rw [he, pollsAndRetries_passed hs.freeze fun y hy => hpassed y (hbefore y hy),
      pollsAndRetries_passed hs'.freeze fun y hy => hpassed' y (hbefore y hy), pollsAndRetries_cons_stale hr hno hretry hstale,
      pollsAndRetries_cons_idle fun q hq => ?_]
    rw [hzone, if_pos rfl] at hq
    exact Option.some.inj hq ▸ hrest.2
  rw [turn_of_no_halt hfree (haltChoice_of_none hs.base.records hhalt),
    turn_of_no_halt hfree' (haltChoice_of_none hs'.base.records hhalt'), unitZones_places hmoves u, hwalk]

/-- Settles O46: each place of a turn, where those before it have no work. -/
theorem turnTakesTheFirstPlaceWithWork : Obligations.TurnTakesTheFirstPlaceWithWork := by
  intro s u hu hu8 hok htimers
  have hs := (scheduled_iff s).mpr hok
  have hrecords := hs.base.records
  have hpollDue : ∀ z r, s.zone? u z = some r → pollWaits s r → exec (.pollDue u z) s = .next (s.turn u) := fun z r hr hpoll => by
    change execPollDue u z s = _
    rw [execPollDue, hr]
    exact if_pos ((pollIsDue_iff s r).mpr hpoll)
  refine ⟨fun hbusy => congrArg _ (if_neg hbusy), hpollDue, fun z hno => ?_, fun hfree => ⟨_, rfl, turnMakes_turn hu hu8⟩,
    fun z r hfree hr hpoll => ⟨_, hpollDue z r hr hpoll, turnMakes_turn hu hu8, turn_sending_of_poll hu hu8 hs hfree hr hpoll⟩,
    fun hfree => ⟨fun z hz hnext => ?_, fun hhalt => ?_⟩⟩
  · change execPollDue u z s = _
    rw [execPollDue]
    cases hr : s.zone? u z with
    | none => rfl
    | some r => exact if_neg (mt (pollIsDue_iff s r).mp (hno r hr))
  · rw [exec_lineTurn, State.turn, if_pos hfree, haltChoice_of_next hrecords hz hnext]
    rfl
  · have hturn := turn_of_no_halt hfree (haltChoice_of_none hrecords hhalt)
    refine ⟨fun z r hr hpoll hpassed => ?_, fun z r hr hretry hno hfresh hhold hpassed => ?_,
      fun z r hr hretry hno hstale hpassed => congrArg Host.Outcome.next
          (turn_evaluate hs hfree hhalt hr hretry hno hstale hpassed), fun hpassed => ?_⟩
    · obtain ⟨after, hat⟩ := pollsAndRetries_at hrecords hs.freeze hr hpassed
      rw [exec_lineTurn, hturn, hat, pollsAndRetries_cons_poll hr hpoll, if_pos rfl]
      dsimp only
      rw [startPoll_eq]
      exact congrArg _ (settle_of_same_states htimers (g := fun q => { q with pollDue := none }) (fun _ => rfl) z _)
    · obtain ⟨after, hat⟩ := pollsAndRetries_at hrecords hs.freeze hr hpassed
      have hf := not_frozen_of_retryWaits hs.freeze hr hretry
      rw [exec_lineTurn, hturn, hat, pollsAndRetries_cons_retry hr hno hretry hfresh hf hhold, if_pos rfl]
      dsimp only
      rw [startRetry_eq hr]
      exact congrArg _ (settle_of_same_states htimers
        (g := fun q => { q with retryDue := false, moveStart := some s.clock.now.ms }) (fun _ => rfl) z _)
    · rw [pollsAndRetries_all_passed hs.freeze hpassed, if_neg Bool.false_ne_true] at hturn
      refine ⟨fun hgrants => ?_, fun hgrants => ⟨fun z r hr hwaits hleast => ?_, fun hnone => ?_⟩⟩
      · have hpick := (arbiterPick_iff s u).mpr hgrants
        change _ = execGrant s
        rw [exec_lineTurn, hturn, State.moveOrSurvey, if_pos hpick, settle_of_timersOk (timersOk_grant htimers hs hpick),
            execGrant, hpick]
      · have hpick := mt (arbiterPick_iff s u).mp hgrants
        rw [exec_lineTurn, hturn, State.moveOrSurvey, if_neg hpick, surveyChoice_of_least hrecords hr hwaits hleast]
        exact congrArg _ (settle_of_timersOk (s := s.startTransaction u z .sense none none) htimers)
      · have hpick := mt (arbiterPick_iff s u).mp hgrants
        have hsurvey : s.surveyChoice u = none := surveyChoice_eq_none fun r hr hunit hwaits =>
          hnone r.zone r (hunit ▸ records_zone?_of_mem hrecords hr) hwaits
        rw [exec_lineTurn, hturn, State.moveOrSurvey, if_neg hpick, hsurvey]
        exact congrArg _ (settle_of_timersOk htimers)

end Sys2Proof.Claims
end

section
/-! PROOF. Where a MOVE starts: by a grant or a retry, within the gates of FREEZE, supply, HOLD and budget (R111, R116, R117,
R122, R129, R155). -/

namespace Sys2Proof.Claims

open Sys2Proof.Machine Sys2Proof.Safety

/-! ### The start of a MOVE -/

/-- A MOVE of zone (u, z) begins from `s` to `t` as the statement allows it. -/
def MoveBegins (s t : State) (u z : Nat) : Prop :=
  s.press.freeze.filtered = false ∧ s.supply.state = .on ∧ s.hold = false ∧
    (∃ r, t.zone? u z = some r ∧ r.state = .moving ∧ r.moveStart = some s.clock.now.ms) ∧
    ∃ r, s.zone? u z = some r ∧
      ((retryWaits r ∧ r.stale = false ∧ t.movingCount ≤ s.movingCount) ∨
        ((r.state = .queued ∨ (retryWaits r ∧ r.stale = true)) ∧ t.movingCount ≤ s.limits.budget ∧ t.pointer = u))

section
variable {s x y : State} {u z : Nat} {r : ZoneRec}

theorem startTransaction_line (hu : 1 ≤ u) (hu8 : u ≤ 8) (v : Verb) (ticks : Option (BitVec 13)) (saved : Option PollDue) :
    (s.startTransaction u z v ticks saved).line u = sending s u z v ticks saved := by
  rw [startTransaction_eq, line_setLine_same hu hu8]

/-- The tests after an event change nothing a MOVE's start speaks of. -/
theorem MoveBegins.settle (h : MoveBegins s x u z) : MoveBegins s x.settle u z := by
  have hpointer : x.settle.pointer = x.pointer := by rw [(moves_settle x).rest]
  unfold MoveBegins State.zone? State.movingCount at h ⊢
  rw [settle_zones, hpointer]
  exact h

/-- A retry's MOVE, from where the walk has come (R122). -/
theorem moveBegins_retry (hs : Scheduled s) {zs : List Nat} (hy : Walked u s y zs) (hr : s.zone? u z = some r)
    (hyr : y.zone? u z = some r) (hretry : retryWaits r) (hfresh : r.stale = false) (hf : s.press.freeze.filtered = false)
    (hhold : s.hold = false) : MoveBegins s (y.startRetry u z) u z := by
  obtain ⟨hmoving, -, -⟩ := id hretry
  have hzones : (y.startRetry u z).zones =
      zoneSet y u z (fun q => { q with retryDue := false, moveStart := some y.clock.now.ms }) := zoneSet_eq _ _ _ _
  have hzone : (y.startRetry u z).zone? u z = some { r with retryDue := false, moveStart := some y.clock.now.ms } :=
    zone?_modZone_same (f := fun q => { q with retryDue := false, moveStart := some y.clock.now.ms }) (fun _ => rfl) hyr
  refine ⟨hf, hs.moving r (State.zone?_some hr).1 hmoving, hhold, ⟨_, hzone, hmoving, by rw [hy.moves.clock]⟩, r, hr,
    .inl ⟨hretry, hfresh, ?_⟩⟩
  refine le_trans ?_ hy.count
  rw [State.movingCount, hzones]
  exact countP_zoneSet_le fun q hq => hq

theorem grantTo_zone? {rest : List Nat} (hr : s.zone? u z = some r) (hqueue : s.queue u = z :: rest) :
    (s.grantTo u).zone? u z = some { r with state := .moving, moveStart := some s.clock.now.ms } := by
  rw [grantTo_eq hqueue]
  exact zone?_modZone_same (s := s.dequeue u z) (f := fun q => { q with state := .moving, moveStart := some s.clock.now.ms })
    (fun _ => rfl) hr

theorem grantTo_pointer {rest : List Nat} (hqueue : s.queue u = z :: rest) : (s.grantTo u).pointer = u := by
  rw [grantTo_eq hqueue]
  rfl

theorem grantTo_line {rest : List Nat} (hr : s.zone? u z = some r) (hqueue : s.queue u = z :: rest) (hu : 1 ≤ u) (hu8 :
    u ≤ 8) (v : Nat) :
    (s.grantTo u).line v = if v = u then sending s u z .move (some (moveTicksOf s u z r)) none else s.line v := by
  have hticks := moveTicks_modZone (s := s.dequeue u z) hr
    (f := fun q => { q with state := .moving, moveStart := some s.clock.now.ms }) (fun _ => rfl) fun _ => rfl
  rw [grantTo_eq hqueue]
  change (State.setLine _ u (sending s u z .move (some (State.moveTicks ((s.dequeue u z).modZone u z fun q =>
    { q with state := .moving, moveStart := some s.clock.now.ms }) u z)) none)).line v = _
  rw [hticks, State.line_setLine]
  by_cases hv : v = u
  · rw [if_pos ⟨hv, hu, hu8⟩, if_pos hv]
    rfl
  · rw [if_neg fun h => hv h.1, if_neg hv]
    rfl

/-- A granted MOVE, from where the walk has come (R116, R117). -/
theorem moveBegins_grant (hs : Scheduled s) (hy : Walked u s y ((s.unitZones u).map ZoneRec.zone)) (hpick :
    y.arbiterPick = some u)
    {rest : List Nat} (hqueue : y.queue u = z :: rest) : MoveBegins s (y.grantTo u) u z := by
  obtain ⟨-, hu8, hcount, -, hon, hhold, hf, -⟩ := of_arbiterPick hpick
  have hbase := hy.sched.base hs.base
  obtain ⟨r, hr, hqueued⟩ := hbase.head hu8 hqueue
  have hrest := hy.moves.rest
  have hlimits : y.limits = s.limits := by rw [hrest]
  have hsupply : s.supply.state = .on := hy.supply.elim (fun e => e ▸ hon) id
  refine ⟨by rwa [hrest] at hf, hsupply, by rwa [hrest] at hhold,
    ⟨_, grantTo_zone? hr hqueue, rfl, by rw [hy.moves.clock]⟩, ?_⟩
  have hbudget : (y.grantTo u).movingCount ≤ s.limits.budget := by
    rw [grantTo_movingCount hbase hu8 hqueue, ← hlimits]
    exact hcount
  have hsame : y.zone? u z = s.zone? u z ∨ ∃ q, s.zone? u z = some q ∧ retryWaits q ∧ q.stale = true := by
    by_cases hz : z ∈ (s.unitZones u).map ZoneRec.zone
    exacts [hy.each z hz, .inl (hy.others z hz)]
  obtain hsame | ⟨q, hq, hretry, hstale⟩ := hsame
  · exact ⟨r, hsame ▸ hr, .inr ⟨.inl hqueued, hbudget, grantTo_pointer hqueue⟩⟩
  · exact ⟨q, hq, .inr ⟨.inr ⟨hretry, hstale⟩, hbudget, grantTo_pointer hqueue⟩⟩

/-- Line u has begun a MOVE of zone z: what the start of a transaction says of verb and zone. -/
theorem verb_of_sending {l : Line} {v : Verb} {ticks : Option (BitVec 13)} {saved : Option PollDue} {w : Nat}
    (hl : l = sending s u w v ticks saved) {t : Txn} (ht : l.txn = some t) : t.zone = w ∧ t.verb = v := by
  rw [hl] at ht
  obtain rfl := Option.some.inj ht
  exact ⟨rfl, rfl⟩

/-- A turn that begins a MOVE (R149, R151, R152). -/
theorem moveBegins_turn (hs : Scheduled s) {t : Txn} (hfree : (s.line u).phase ≠ .sending)
    (hsending : ((s.turn u).line u).phase = .sending) (ht : ((s.turn u).line u).txn = some t) (hmove : t.verb = .move) :
    MoveBegins s (s.turn u) u t.zone := by
  obtain ⟨hu, hu8⟩ := line_in_range ht
  by_cases hidle : (s.line u).phase = .free
  · obtain hhalt | ⟨w, hhalt⟩ := Option.eq_none_or_eq_some (s.haltChoice u)
    · rw [turn_of_no_halt hidle hhalt] at hsending ht ⊢
      obtain ⟨y, hy, he⟩ | ⟨before, w, after, y, r, -, hy, hr, hyr, ⟨-, he⟩ | ⟨⟨hretry, hfresh, hf, hhold⟩, he⟩⟩ :=
        pollsAndRetries_cases (u := u) hs (unit_nodup hs.base.records u)
      · rw [he, if_neg Bool.false_ne_true] at hsending ht ⊢
        dsimp only at hsending ht ⊢
        rw [settle_line] at hsending ht
        unfold State.moveOrSurvey at hsending ht ⊢
        split_ifs at hsending ht ⊢ with hpick
        · obtain ⟨-, -, -, ⟨w, rest, hqueue⟩, -⟩ := of_arbiterPick hpick
          obtain ⟨r, hr, -⟩ := (hy.sched.base hs.base).head hu8 hqueue
          obtain ⟨rfl, -⟩ := verb_of_sending ((grantTo_line hr hqueue hu hu8 u).trans (if_pos rfl)) ht
          exact (moveBegins_grant hs hy hpick hqueue).settle
        · cases hsurvey : y.surveyChoice u with
          | some w =>
            simp only [hsurvey] at ht
            obtain ⟨-, hsense⟩ := verb_of_sending (startTransaction_line hu hu8 .sense none none) ht
            rw [hmove] at hsense
            cases hsense
          | none =>
            simp only [hsurvey] at hsending
            rw [State.line, hy.moves.lines] at hsending
            exact absurd hsending hfree
      · rw [he, if_pos rfl] at ht
        rw [settle_line] at ht
        obtain ⟨-, hsense⟩ := verb_of_sending (startTransaction_line hu hu8 .sense none r.pollDue) ht
        rw [hmove] at hsense
        cases hsense
      · rw [he, if_pos rfl] at ht ⊢
        rw [settle_line] at ht
        obtain ⟨rfl, -⟩ := verb_of_sending (startTransaction_line hu hu8 .move _ none) ht
        exact (moveBegins_retry hs hy hr hyr hretry hfresh hf hhold).settle
    · rw [State.turn, if_pos hidle, hhalt] at ht
      obtain ⟨-, hverb⟩ := verb_of_sending (startTransaction_line hu hu8 .halt none none) ht
      rw [hmove] at hverb
      cases hverb
  · rw [State.turn, if_neg hidle] at hsending
    exact absurd hsending hfree

/-- A grant begins a MOVE on its own line (R116). -/
theorem moveBegins_of_grant (hs : Scheduled s) {v : Nat} (hpick : s.arbiterPick = some v) {t : Txn}
    (hfree : (s.line u).phase ≠ .sending) (hsending : ((s.grantTo v).line u).phase = .sending)
    (ht : ((s.grantTo v).line u).txn = some t) : MoveBegins s (s.grantTo v) u t.zone := by
  obtain ⟨hv, hv8, -, ⟨w, rest, hqueue⟩, -⟩ := of_arbiterPick hpick
  obtain ⟨r, hr, -⟩ := hs.base.head hv8 hqueue
  have hline := grantTo_line hr hqueue hv hv8 u
  split_ifs at hline with huv
  · subst huv
    obtain ⟨rfl, -⟩ := verb_of_sending hline ht
    obtain ⟨-, i, -, -, ⟨-, -, -, -, -, hno⟩, -⟩ := (arbiterPick_iff s u).mp hpick
    have hwalked : Walked u s s ((s.unitZones u).map ZoneRec.zone) :=
      ⟨.refl s, .refl s, fun _ _ => rfl, fun _ _ => .inl rfl, fun z _ r hr => by
        obtain ⟨hmem, hunit, -⟩ := State.zone?_some hr
        exact (hno r hmem hunit).2.1, le_rfl, .inl rfl⟩
    exact moveBegins_grant hs hwalked hpick hqueue
  · rw [hline] at hsending
    exact absurd hsending hfree

/-- What an executed request leaves of the lines' phases. -/
theorem line_phase_body {q : Req} (hx : BodyEffect q s x) (w : Nat) : (x.line w).phase = (s.line w).phase := by
  have hlines : ∀ {t : State}, t.lines = s.lines → (t.line w).phase = (s.line w).phase := fun h => by rw [State.line, h]; rfl
  cases hx with
  | configure nz hdevice hlen hnz =>
    change (at1 (s.lines.map fun l => { l with haltMark := none }) w Line.afterReset).phase =
        (at1 s.lines w Line.afterReset).phase
    unfold at1
    split_ifs
    · rfl
    · rw [vector_getD, vector_getD, Vector.getElem?_map]
      cases s.lines[w - 1]? <;> rfl
  | retry hfailed => exact hlines (by rw [retrySupply_frame])
  | service x hsched hmoves => exact hlines (hmoves.trans (moves_settle x)).lines
  | calService u z e he x hsched hmoves => exact hlines (hmoves.trans (moves_settle x)).lines
  | trims g hg hrange => exact hlines ((moves_handBatch_lines _ _).trans (reworks_trims hg).lines)
  | endJob j hj => exact hlines ((moves_handBatch_lines _ _).trans (reworks_endedJob s).lines)
  | sweep u sweep j p hj hp hsweep => exact hlines ((moves_handBatch_lines _ _).trans (reworks_sweptJob s j u sweep _).lines)
  | take c hslot hdefined hdevice => exact hlines ((moves_handBatch_lines _ _).trans (reworks_take s c).lines)
  | _ => rfl

/-- A line that no event gives a turn or a grant begins no transaction. -/
theorem phase_of_lines {t : State} (h : t.lines = s.lines) (w : Nat) : (t.line w).phase = (s.line w).phase := by
  rw [State.line, h]
  rfl

/-- Every command that begins a MOVE does so within the gates. -/
theorem moveBegins_effect {t : State} (hs : Scheduled s) (ht : Effect s t) {m : Txn} (hfree : (s.line u).phase ≠ .sending)
    (hsending : (t.line u).phase = .sending) (hm : (t.line u).txn = some m) (hmove : m.verb = .move) :
    MoveBegins s t u m.zone := by
  have hno : ∀ {P : Prop}, (t.line u).phase = (s.line u).phase → P := fun h => absurd (h.symm.trans hsending) hfree
  have hturn : TurnStarts s t → MoveBegins s t u m.zone := fun h => by
    obtain ⟨y, rfl | ⟨l, hl, rfl⟩, rfl⟩ := h u hfree hsending
    · exact moveBegins_turn hs hfree hsending hm hmove
    · obtain ⟨hu, hu8⟩ := line_in_range hm
      have hidle : ((s.setLine u l).line u).phase ≠ .sending := by
        rw [line_setLine_same hu hu8, hl]
        decide
      exact moveBegins_turn (hs.sched (.setLine s u l)) hidle hsending hm hmove
  cases ht with
  | quiet hframe hfreeze hphase hbusy => exact hno (phase_of_lines (by rw [hframe]) u)
  | ended p => exact hno (phase_of_lines (t := (s.commit p).modPort p PortCtl.finish) (s.commit_lines p) u)
  | reset hframe htables =>
    have hline : t.line u = Line.afterReset := by
      rw [State.line, hframe]
      exact at1_replicate 8 u Line.afterReset
    rw [hline] at hsending
    cases hsending
  | sched x hsched hlines hturns => exact hturn hturns
  | line v l hlines hturns => exact hturn hturns
  | grant v hpick hlines => exact moveBegins_of_grant hs hpick hfree hsending hm
  | freezeOn l hl => exact hno (phase_of_lines ((moves_freezeAsserted _).trans (moves_post _ _)).lines u)
  | freezeOff l hl => exact hno (phase_of_lines (moves_post _ _).lines u)
  | supplyOn l hw => exact hno (phase_of_lines (moves_settle _).lines u)
  | supplyLost l hon => exact hno (phase_of_lines (moves_supplyLoss _).lines u)
  | warmUpOver hw => exact hno (phase_of_lines (moves_post _ _).lines u)
  | standbyOver hs => exact hno rfl
  | request p code tag a x w hbody hrun hw hfree' => exact hno (line_phase_body (s := s.shiftZero p) (x := x) hbody u)

end

/-- Settles O45: what a grant does, and the gates of every start of a MOVE. -/
theorem grantStartsTheNextMove : Obligations.GrantStartsTheNextMove := by
  refine ⟨fun s t u m hok h hfree hsending hm hmove => ?_, fun s hok => ⟨fun hnone => ?_, fun u z rest hgrants hqueue => ?_⟩⟩
  · have hs := (scheduled_iff s).mpr hok
    obtain ⟨-, rfl⟩ | ⟨c, rest, -, hexec⟩ := step_cases h
    · exact moveBegins_effect hs (effect_tick s) hfree hsending hm hmove
    · have hrest : Scheduled { s with pending := rest } := hs.congr rfl rfl rfl rfl rfl rfl (.inl rfl) id
      exact moveBegins_effect (s := { s with pending := rest }) hrest (exec_effect hexec) hfree hsending hm hmove
  · have hpick : s.arbiterPick = none := Option.eq_none_iff_forall_ne_some.mpr fun u e => hnone u ((arbiterPick_iff s u).mp e)
    change execGrant s = _
    rw [execGrant, hpick]
  · have hs := (scheduled_iff s).mpr hok
    have hpick := (arbiterPick_iff s u).mpr hgrants
    obtain ⟨hu, hu8, -⟩ := of_arbiterPick hpick
    obtain ⟨r, hr, hqueued⟩ := hs.base.head hu8 hqueue
    refine ⟨r, s.grantTo u, hr, hqueued, ?_, ?_, grantTo_zones hqueue,
      grantTo_queue hqueue hu hu8 (hs.base.queues.2 u (mem_range9 hu8)).1, grantTo_line hr hqueue hu hu8,
      grantTo_movingCount hs.base hu8 hqueue⟩
    · change execGrant s = _
      rw [execGrant, hpick]
    · rw [grantTo_eq hqueue]
      rfl

end Sys2Proof.Claims
end
